-- ==== Sys2Proof/Word.lean ====
section
/-! DEFINITION. The word and byte types of the engine (spec/00_scope.md R10, R13): a word is a 32-bit unsigned
quantity, bit 31 the most significant. -/

namespace Sys2Proof

/-- A 32-bit word (R10, R13). -/
abbrev Word := BitVec 32

/-- A byte, one of the four of a word (R13) or an S-box entry (R260). -/
abbrev Byte := BitVec 8

end Sys2Proof
end

