-- ==== Sys2Proof/Syntax.lean ====
section
/-! DEFINITION. The commands of the engine as data: the names of the command word's fields (30_encoding.md R73 to
R75), the errors a command can end in (60_exceptions.md R301), and `Instr`, one constructor for each of the 45 rows of
spec/opcode_table.json. Operands are the unsigned counts of R77 (log entry 10). -/

namespace Sys2Proof

/-- The ciphers, field `CIPHER` of the command word (R75). -/
inductive Cipher where
  | aes
  | des
  | tdes
  | bf
  deriving DecidableEq, Repr

/-- The value of the field `CIPHER` (R75), which `KSTAG.CIPHER` uses too (R23). -/
def Cipher.code : Cipher → BitVec 2
  | .aes => 0
  | .des => 1
  | .tdes => 2
  | .bf => 3

/-- The chaining modes, field `MODE` of the command word (R74). -/
inductive Mode where
  | ecb
  | cbc
  | cfb
  | ofb
  | ctr
  deriving DecidableEq, Repr

/-- The value of the field `MODE` (R74). -/
def Mode.code : Mode → BitVec 3
  | .ecb => 0
  | .cbc => 1
  | .cfb => 2
  | .ofb => 3
  | .ctr => 4

/-- The six command errors (R301): architected outcomes of a command (R300), never a stop of the model. -/
inductive CommandError where
  /-- key length outside the cipher's supported set -/
  | invalidKeySize
  /-- `MODE` field 5, 6 or 7 in an `ENC` or `DEC` word -/
  | unsupportedMode
  /-- `NWORDS` not a multiple of the block size -/
  | misalignedInput
  /-- `NWORDS` larger than `DATA_WORDS` -/
  | outOfBounds
  /-- no schedule of the command's cipher, or no inverse schedule where one is needed -/
  | scheduleNotReady
  /-- a reserved bit set, a field that must be 0 not 0, or `INVKEY` with a cipher other than AES -/
  | illegalCommand
  deriving DecidableEq, Repr

/-- The commands. `kw` is `KEYWORDS`, the key size in words; `n` is `NWORDS`, the number of ready words (R72, R77). -/
inductive Instr where
  /-- `KEYEXP.AES kw`, R100 -/
  | keyexpAes (kw : Nat)
  /-- `KEYEXP.DES kw`, R140 -/
  | keyexpDes (kw : Nat)
  /-- `KEYEXP.TDES kw`, R175 -/
  | keyexpTdes (kw : Nat)
  /-- `KEYEXP.BF kw`, R190 -/
  | keyexpBf (kw : Nat)
  /-- `INVKEY.AES`, R107 -/
  | invkeyAes
  /-- `ENC.ECB.AES n`, R222 -/
  | encEcbAes (n : Nat)
  /-- `ENC.ECB.DES n`, R222 -/
  | encEcbDes (n : Nat)
  /-- `ENC.ECB.TDES n`, R222 -/
  | encEcbTdes (n : Nat)
  /-- `ENC.ECB.BF n`, R222 -/
  | encEcbBf (n : Nat)
  /-- `DEC.ECB.AES n`, R223 -/
  | decEcbAes (n : Nat)
  /-- `DEC.ECB.DES n`, R223 -/
  | decEcbDes (n : Nat)
  /-- `DEC.ECB.TDES n`, R223 -/
  | decEcbTdes (n : Nat)
  /-- `DEC.ECB.BF n`, R223 -/
  | decEcbBf (n : Nat)
  /-- `ENC.CBC.AES n`, R224 -/
  | encCbcAes (n : Nat)
  /-- `ENC.CBC.DES n`, R224 -/
  | encCbcDes (n : Nat)
  /-- `ENC.CBC.TDES n`, R224 -/
  | encCbcTdes (n : Nat)
  /-- `ENC.CBC.BF n`, R224 -/
  | encCbcBf (n : Nat)
  /-- `DEC.CBC.AES n`, R225 -/
  | decCbcAes (n : Nat)
  /-- `DEC.CBC.DES n`, R225 -/
  | decCbcDes (n : Nat)
  /-- `DEC.CBC.TDES n`, R225 -/
  | decCbcTdes (n : Nat)
  /-- `DEC.CBC.BF n`, R225 -/
  | decCbcBf (n : Nat)
  /-- `ENC.CFB.AES n`, R226 -/
  | encCfbAes (n : Nat)
  /-- `ENC.CFB.DES n`, R226 -/
  | encCfbDes (n : Nat)
  /-- `ENC.CFB.TDES n`, R226 -/
  | encCfbTdes (n : Nat)
  /-- `ENC.CFB.BF n`, R226 -/
  | encCfbBf (n : Nat)
  /-- `DEC.CFB.AES n`, R227 -/
  | decCfbAes (n : Nat)
  /-- `DEC.CFB.DES n`, R227 -/
  | decCfbDes (n : Nat)
  /-- `DEC.CFB.TDES n`, R227 -/
  | decCfbTdes (n : Nat)
  /-- `DEC.CFB.BF n`, R227 -/
  | decCfbBf (n : Nat)
  /-- `ENC.OFB.AES n`, R228 -/
  | encOfbAes (n : Nat)
  /-- `ENC.OFB.DES n`, R228 -/
  | encOfbDes (n : Nat)
  /-- `ENC.OFB.TDES n`, R228 -/
  | encOfbTdes (n : Nat)
  /-- `ENC.OFB.BF n`, R228 -/
  | encOfbBf (n : Nat)
  /-- `DEC.OFB.AES n`, R229 -/
  | decOfbAes (n : Nat)
  /-- `DEC.OFB.DES n`, R229 -/
  | decOfbDes (n : Nat)
  /-- `DEC.OFB.TDES n`, R229 -/
  | decOfbTdes (n : Nat)
  /-- `DEC.OFB.BF n`, R229 -/
  | decOfbBf (n : Nat)
  /-- `ENC.CTR.AES n`, R230 -/
  | encCtrAes (n : Nat)
  /-- `ENC.CTR.DES n`, R230 -/
  | encCtrDes (n : Nat)
  /-- `ENC.CTR.TDES n`, R230 -/
  | encCtrTdes (n : Nat)
  /-- `ENC.CTR.BF n`, R230 -/
  | encCtrBf (n : Nat)
  /-- `DEC.CTR.AES n`, R231 -/
  | decCtrAes (n : Nat)
  /-- `DEC.CTR.DES n`, R231 -/
  | decCtrDes (n : Nat)
  /-- `DEC.CTR.TDES n`, R231 -/
  | decCtrTdes (n : Nat)
  /-- `DEC.CTR.BF n`, R231 -/
  | decCtrBf (n : Nat)
  deriving DecidableEq, Repr

end Sys2Proof
end

