-- ==== Sys2Proof/WellFormed.lean ====
section
/-! DEFINITION. Which terms of `Instr` stand for command words (30_encoding.md R72, R77, R82): `KEYWORDS` has 4 bits and
`NWORDS` has 16. Key sizes and counts a command refuses are well-formed: refusing them is its meaning (R80). -/

namespace Sys2Proof

/-- `KEYWORDS` fits its 4-bit field (R72). -/
abbrev KeywordsFit (kw : Nat) : Prop := kw < 16

/-- `NWORDS` fits its 16-bit field (R72). -/
abbrev NwordsFit (n : Nat) : Prop := n < 65536

/-- The operand of the command fits its field. -/
abbrev Instr.WellFormed (i : Instr) : Prop :=
  match i with
  | .keyexpAes kw => KeywordsFit kw
  | .keyexpDes kw => KeywordsFit kw
  | .keyexpTdes kw => KeywordsFit kw
  | .keyexpBf kw => KeywordsFit kw
  | .invkeyAes => True
  | .encEcbAes n => NwordsFit n
  | .encEcbDes n => NwordsFit n
  | .encEcbTdes n => NwordsFit n
  | .encEcbBf n => NwordsFit n
  | .decEcbAes n => NwordsFit n
  | .decEcbDes n => NwordsFit n
  | .decEcbTdes n => NwordsFit n
  | .decEcbBf n => NwordsFit n
  | .encCbcAes n => NwordsFit n
  | .encCbcDes n => NwordsFit n
  | .encCbcTdes n => NwordsFit n
  | .encCbcBf n => NwordsFit n
  | .decCbcAes n => NwordsFit n
  | .decCbcDes n => NwordsFit n
  | .decCbcTdes n => NwordsFit n
  | .decCbcBf n => NwordsFit n
  | .encCfbAes n => NwordsFit n
  | .encCfbDes n => NwordsFit n
  | .encCfbTdes n => NwordsFit n
  | .encCfbBf n => NwordsFit n
  | .decCfbAes n => NwordsFit n
  | .decCfbDes n => NwordsFit n
  | .decCfbTdes n => NwordsFit n
  | .decCfbBf n => NwordsFit n
  | .encOfbAes n => NwordsFit n
  | .encOfbDes n => NwordsFit n
  | .encOfbTdes n => NwordsFit n
  | .encOfbBf n => NwordsFit n
  | .decOfbAes n => NwordsFit n
  | .decOfbDes n => NwordsFit n
  | .decOfbTdes n => NwordsFit n
  | .decOfbBf n => NwordsFit n
  | .encCtrAes n => NwordsFit n
  | .encCtrDes n => NwordsFit n
  | .encCtrTdes n => NwordsFit n
  | .encCtrBf n => NwordsFit n
  | .decCtrAes n => NwordsFit n
  | .decCtrDes n => NwordsFit n
  | .decCtrTdes n => NwordsFit n
  | .decCtrBf n => NwordsFit n

end Sys2Proof
end

