-- ==== Sys2Proof/Decode.lean ====
section
/-! DEFINITION. Decoding and encoding of command words (30_encoding.md). `decode` is total on every 32-bit word and
follows the pseudocode of R71 (its checks in their order); the words it rejects are rejected by the name of the error
that R71 raises. `encode` follows the format tables of R76. -/

namespace Sys2Proof

/-- Field `OP = v[1:0]` (R72). -/
def fieldOp (v : Word) : BitVec 2 := v.extractLsb' 0 2
/-- Field `CIPHER = v[3:2]` (R72). -/
def fieldCipher (v : Word) : BitVec 2 := v.extractLsb' 2 2
/-- Field `MODE = v[6:4]` (R72). -/
def fieldMode (v : Word) : BitVec 3 := v.extractLsb' 4 3
/-- The reserved bit `v[7]` (R72). -/
def fieldReserved7 (v : Word) : BitVec 1 := v.extractLsb' 7 1
/-- Field `KEYWORDS = v[11:8]` (R72). -/
def fieldKeywords (v : Word) : BitVec 4 := v.extractLsb' 8 4
/-- The reserved bits `v[15:12]` (R72). -/
def fieldReserved12 (v : Word) : BitVec 4 := v.extractLsb' 12 4
/-- Field `NWORDS = v[31:16]` (R72). -/
def fieldNwords (v : Word) : BitVec 16 := v.extractLsb' 16 16

/-- The cipher a `CIPHER` field names (R75): all four values are used. -/
def cipherOf (c : BitVec 2) : Cipher :=
  if c = 0 then .aes else if c = 1 then .des else if c = 2 then .tdes else .bf

/-- The mode a `MODE` field names (R74); 5, 6 and 7 name none. -/
def modeOf (m : BitVec 3) : Option Mode :=
  if m = 0 then some .ecb else if m = 1 then some .cbc else if m = 2 then some .cfb
  else if m = 3 then some .ofb else if m = 4 then some .ctr else none

/-- The `KEYEXP` command of a cipher (R80). -/
def keyexpOf (c : Cipher) (kw : Nat) : Instr :=
  match c with
  | .aes => .keyexpAes kw
  | .des => .keyexpDes kw
  | .tdes => .keyexpTdes kw
  | .bf => .keyexpBf kw

/-- The `ENC` command of a mode and a cipher (R80). -/
def encOf (m : Mode) (c : Cipher) (n : Nat) : Instr :=
  match m, c with
  | .ecb, .aes => .encEcbAes n
  | .ecb, .des => .encEcbDes n
  | .ecb, .tdes => .encEcbTdes n
  | .ecb, .bf => .encEcbBf n
  | .cbc, .aes => .encCbcAes n
  | .cbc, .des => .encCbcDes n
  | .cbc, .tdes => .encCbcTdes n
  | .cbc, .bf => .encCbcBf n
  | .cfb, .aes => .encCfbAes n
  | .cfb, .des => .encCfbDes n
  | .cfb, .tdes => .encCfbTdes n
  | .cfb, .bf => .encCfbBf n
  | .ofb, .aes => .encOfbAes n
  | .ofb, .des => .encOfbDes n
  | .ofb, .tdes => .encOfbTdes n
  | .ofb, .bf => .encOfbBf n
  | .ctr, .aes => .encCtrAes n
  | .ctr, .des => .encCtrDes n
  | .ctr, .tdes => .encCtrTdes n
  | .ctr, .bf => .encCtrBf n

/-- The `DEC` command of a mode and a cipher (R80). -/
def decOf (m : Mode) (c : Cipher) (n : Nat) : Instr :=
  match m, c with
  | .ecb, .aes => .decEcbAes n
  | .ecb, .des => .decEcbDes n
  | .ecb, .tdes => .decEcbTdes n
  | .ecb, .bf => .decEcbBf n
  | .cbc, .aes => .decCbcAes n
  | .cbc, .des => .decCbcDes n
  | .cbc, .tdes => .decCbcTdes n
  | .cbc, .bf => .decCbcBf n
  | .cfb, .aes => .decCfbAes n
  | .cfb, .des => .decCfbDes n
  | .cfb, .tdes => .decCfbTdes n
  | .cfb, .bf => .decCfbBf n
  | .ofb, .aes => .decOfbAes n
  | .ofb, .des => .decOfbDes n
  | .ofb, .tdes => .decOfbTdes n
  | .ofb, .bf => .decOfbBf n
  | .ctr, .aes => .decCtrAes n
  | .ctr, .des => .decCtrDes n
  | .ctr, .tdes => .decCtrTdes n
  | .ctr, .bf => .decCtrBf n

/-- Decoding, rule R71: the checks in the order written, the first that fails decides the error. -/
def decode (v : Word) : Except CommandError Instr :=
  let op := fieldOp v
  let c := fieldCipher v
  let m := fieldMode v
  let kw := fieldKeywords v
  let n := fieldNwords v
  if fieldReserved7 v ≠ 0 ∨ fieldReserved12 v ≠ 0 then .error .illegalCommand
  else if op = 0 then
    if m ≠ 0 ∨ n ≠ 0 then .error .illegalCommand else .ok (keyexpOf (cipherOf c) kw.toNat)
  else if op = 1 then
    if m ≠ 0 ∨ n ≠ 0 ∨ kw ≠ 0 ∨ c ≠ 0 then .error .illegalCommand else .ok .invkeyAes
  else if kw ≠ 0 then .error .illegalCommand
  else
    match modeOf m with
    | none => .error .unsupportedMode
    | some mode =>
      if op = 2 then .ok (encOf mode (cipherOf c) n.toNat) else .ok (decOf mode (cipherOf c) n.toNat)

/-- The instruction the decoder reads from the `nbits` bits `w` of an opcode-table row. Every command is one 32-bit
word (R70, R81), so bits above `nbits` are 0 and the word is `w` itself. -/
def decodeTableWord (nbits w : Nat) : Option Instr :=
  match decode (BitVec.ofNat 32 (w % 2 ^ nbits)) with
  | .ok i => some i
  | .error _ => none

/-- A command word from its fields, rule R76: `NWORDS`, reserved, `KEYWORDS`, reserved, `MODE`, `CIPHER`, `OP`, the most
significant first. -/
def assembleWord (op : BitVec 2) (c : BitVec 2) (m : BitVec 3) (kw n : Nat) : Word :=
  BitVec.ofNat 16 n ++ (0#4 ++ (BitVec.ofNat 4 kw ++ (0#1 ++ (m ++ (c ++ op)))))

/-- A word of format K (R76). -/
def formatK (c : Cipher) (kw : Nat) : Word := assembleWord 0 c.code 0 kw 0
/-- The word of format I (R76). -/
def formatI : Word := assembleWord 1 Cipher.aes.code 0 0 0
/-- A word of format M with `OP = 2` (R76). -/
def formatEnc (m : Mode) (c : Cipher) (n : Nat) : Word := assembleWord 2 c.code m.code 0 n
/-- A word of format M with `OP = 3` (R76). -/
def formatDec (m : Mode) (c : Cipher) (n : Nat) : Word := assembleWord 3 c.code m.code 0 n

/-- The command word of an instruction (R76). -/
def encode (i : Instr) : Word :=
  match i with
  | .keyexpAes kw => formatK .aes kw
  | .keyexpDes kw => formatK .des kw
  | .keyexpTdes kw => formatK .tdes kw
  | .keyexpBf kw => formatK .bf kw
  | .invkeyAes => formatI
  | .encEcbAes n => formatEnc .ecb .aes n
  | .encEcbDes n => formatEnc .ecb .des n
  | .encEcbTdes n => formatEnc .ecb .tdes n
  | .encEcbBf n => formatEnc .ecb .bf n
  | .decEcbAes n => formatDec .ecb .aes n
  | .decEcbDes n => formatDec .ecb .des n
  | .decEcbTdes n => formatDec .ecb .tdes n
  | .decEcbBf n => formatDec .ecb .bf n
  | .encCbcAes n => formatEnc .cbc .aes n
  | .encCbcDes n => formatEnc .cbc .des n
  | .encCbcTdes n => formatEnc .cbc .tdes n
  | .encCbcBf n => formatEnc .cbc .bf n
  | .decCbcAes n => formatDec .cbc .aes n
  | .decCbcDes n => formatDec .cbc .des n
  | .decCbcTdes n => formatDec .cbc .tdes n
  | .decCbcBf n => formatDec .cbc .bf n
  | .encCfbAes n => formatEnc .cfb .aes n
  | .encCfbDes n => formatEnc .cfb .des n
  | .encCfbTdes n => formatEnc .cfb .tdes n
  | .encCfbBf n => formatEnc .cfb .bf n
  | .decCfbAes n => formatDec .cfb .aes n
  | .decCfbDes n => formatDec .cfb .des n
  | .decCfbTdes n => formatDec .cfb .tdes n
  | .decCfbBf n => formatDec .cfb .bf n
  | .encOfbAes n => formatEnc .ofb .aes n
  | .encOfbDes n => formatEnc .ofb .des n
  | .encOfbTdes n => formatEnc .ofb .tdes n
  | .encOfbBf n => formatEnc .ofb .bf n
  | .decOfbAes n => formatDec .ofb .aes n
  | .decOfbDes n => formatDec .ofb .des n
  | .decOfbTdes n => formatDec .ofb .tdes n
  | .decOfbBf n => formatDec .ofb .bf n
  | .encCtrAes n => formatEnc .ctr .aes n
  | .encCtrDes n => formatEnc .ctr .des n
  | .encCtrTdes n => formatEnc .ctr .tdes n
  | .encCtrBf n => formatEnc .ctr .bf n
  | .decCtrAes n => formatDec .ctr .aes n
  | .decCtrDes n => formatDec .ctr .des n
  | .decCtrTdes n => formatDec .ctr .tdes n
  | .decCtrBf n => formatDec .ctr .bf n

/-- A row of the opcode map (R80): a word `v` is a command of the row when `v & mask = match`. -/
def rowMask (i : Instr) : Word :=
  match i with
  | .keyexpAes _ => 0xfffff0ff#32
  | .keyexpDes _ => 0xfffff0ff#32
  | .keyexpTdes _ => 0xfffff0ff#32
  | .keyexpBf _ => 0xfffff0ff#32
  | .invkeyAes => 0xffffffff#32
  | .encEcbAes _ => 0x0000ffff#32
  | .encEcbDes _ => 0x0000ffff#32
  | .encEcbTdes _ => 0x0000ffff#32
  | .encEcbBf _ => 0x0000ffff#32
  | .decEcbAes _ => 0x0000ffff#32
  | .decEcbDes _ => 0x0000ffff#32
  | .decEcbTdes _ => 0x0000ffff#32
  | .decEcbBf _ => 0x0000ffff#32
  | .encCbcAes _ => 0x0000ffff#32
  | .encCbcDes _ => 0x0000ffff#32
  | .encCbcTdes _ => 0x0000ffff#32
  | .encCbcBf _ => 0x0000ffff#32
  | .decCbcAes _ => 0x0000ffff#32
  | .decCbcDes _ => 0x0000ffff#32
  | .decCbcTdes _ => 0x0000ffff#32
  | .decCbcBf _ => 0x0000ffff#32
  | .encCfbAes _ => 0x0000ffff#32
  | .encCfbDes _ => 0x0000ffff#32
  | .encCfbTdes _ => 0x0000ffff#32
  | .encCfbBf _ => 0x0000ffff#32
  | .decCfbAes _ => 0x0000ffff#32
  | .decCfbDes _ => 0x0000ffff#32
  | .decCfbTdes _ => 0x0000ffff#32
  | .decCfbBf _ => 0x0000ffff#32
  | .encOfbAes _ => 0x0000ffff#32
  | .encOfbDes _ => 0x0000ffff#32
  | .encOfbTdes _ => 0x0000ffff#32
  | .encOfbBf _ => 0x0000ffff#32
  | .decOfbAes _ => 0x0000ffff#32
  | .decOfbDes _ => 0x0000ffff#32
  | .decOfbTdes _ => 0x0000ffff#32
  | .decOfbBf _ => 0x0000ffff#32
  | .encCtrAes _ => 0x0000ffff#32
  | .encCtrDes _ => 0x0000ffff#32
  | .encCtrTdes _ => 0x0000ffff#32
  | .encCtrBf _ => 0x0000ffff#32
  | .decCtrAes _ => 0x0000ffff#32
  | .decCtrDes _ => 0x0000ffff#32
  | .decCtrTdes _ => 0x0000ffff#32
  | .decCtrBf _ => 0x0000ffff#32

/-- The `match` value of an instruction's row of the opcode map (R80). -/
def rowMatch (i : Instr) : Word :=
  match i with
  | .keyexpAes _ => 0x00000000#32
  | .keyexpDes _ => 0x00000004#32
  | .keyexpTdes _ => 0x00000008#32
  | .keyexpBf _ => 0x0000000c#32
  | .invkeyAes => 0x00000001#32
  | .encEcbAes _ => 0x00000002#32
  | .encEcbDes _ => 0x00000006#32
  | .encEcbTdes _ => 0x0000000a#32
  | .encEcbBf _ => 0x0000000e#32
  | .decEcbAes _ => 0x00000003#32
  | .decEcbDes _ => 0x00000007#32
  | .decEcbTdes _ => 0x0000000b#32
  | .decEcbBf _ => 0x0000000f#32
  | .encCbcAes _ => 0x00000012#32
  | .encCbcDes _ => 0x00000016#32
  | .encCbcTdes _ => 0x0000001a#32
  | .encCbcBf _ => 0x0000001e#32
  | .decCbcAes _ => 0x00000013#32
  | .decCbcDes _ => 0x00000017#32
  | .decCbcTdes _ => 0x0000001b#32
  | .decCbcBf _ => 0x0000001f#32
  | .encCfbAes _ => 0x00000022#32
  | .encCfbDes _ => 0x00000026#32
  | .encCfbTdes _ => 0x0000002a#32
  | .encCfbBf _ => 0x0000002e#32
  | .decCfbAes _ => 0x00000023#32
  | .decCfbDes _ => 0x00000027#32
  | .decCfbTdes _ => 0x0000002b#32
  | .decCfbBf _ => 0x0000002f#32
  | .encOfbAes _ => 0x00000032#32
  | .encOfbDes _ => 0x00000036#32
  | .encOfbTdes _ => 0x0000003a#32
  | .encOfbBf _ => 0x0000003e#32
  | .decOfbAes _ => 0x00000033#32
  | .decOfbDes _ => 0x00000037#32
  | .decOfbTdes _ => 0x0000003b#32
  | .decOfbBf _ => 0x0000003f#32
  | .encCtrAes _ => 0x00000042#32
  | .encCtrDes _ => 0x00000046#32
  | .encCtrTdes _ => 0x0000004a#32
  | .encCtrBf _ => 0x0000004e#32
  | .decCtrAes _ => 0x00000043#32
  | .decCtrDes _ => 0x00000047#32
  | .decCtrTdes _ => 0x0000004b#32
  | .decCtrBf _ => 0x0000004f#32

end Sys2Proof
end

