-- ==== Sys2Proof/Machine/Bits.lean ====
section
/-! DEFINITION. Bytes of a word, rotations and table entries (00_scope.md R13, R14), the bit-field helpers the other
files of Machine use. -/

namespace Sys2Proof.Machine

/-- `byte_k(x) = x[31-8k : 24-8k]`, k = 0..3; `byte_0` is the most significant byte (R13). -/
def byteOf (k : Nat) (x : Word) : Byte := x.extractLsb' (24 - 8 * k) 8

/-- `w4(a, b, c, d)`: the word whose `byte_0..byte_3` are a, b, c, d (R13). -/
def w4 (a b c d : Byte) : Word := a ++ (b ++ (c ++ d))

/-- `rotl32(a, n) = (a << n) | (a >> (32-n))` (R14). -/
def rotl32 (a : Word) (n : Nat) : Word := a.rotateLeft n

/-- `rotr32(a, n) = rotl32(a, (32-n) mod 32)` (R14). -/
def rotr32 (a : Word) (n : Nat) : Word := rotl32 a ((32 - n) % 32)

/-- `zext_32(v)` of a six-bit selector (R14, R32). -/
def zext32 (v : BitVec 6) : Word := v.setWidth 32

/-- Entry `i` of a table listed in rows of `width` entries, the listings of 48_tables_aes_des.md and
49_tables_blowfish.md. Every lookup of the engine is inside its table (R59). -/
def tableEntry (rows : List (List Nat)) (width i : Nat) : Nat := (rows.getD (i / width) []).getD (i % width) 0

end Sys2Proof.Machine
end

