-- ==== Sys2Proof/Config.lean ====
section
/-! DEFINITION. What an implementation of the engine fixes and what the spec leaves unspecified, as constants without
a body: no proof can see their values (log entries 6 and 8). -/

namespace Sys2Proof

/-- How far the implementation's `DATA_WORDS` lies above its least value 4 (R12). Nothing constrains it further. -/
opaque Config.dataWordsAboveFour : Fin 65532

/-- `DATA_WORDS` (R12): the number of words of the data buffer, `4 <= DATA_WORDS <= 65535`. -/
def Config.dataWords : Nat := 4 + Config.dataWordsAboveFour.val

/-- The unspecified word at bus address `address` of `KSF`, `KSI` or `DATA` after a reset (R40, R330; U1, U8 of
93_implementation_defined.md). `resets` counts the resets since power-on, so that two resets need not leave the same
words, and `old` lists every word the engine held before the reset, so that keeping the old content is one of the
allowed values (empty at power-on). -/
opaque Config.wordAfterReset (resets : Nat) (old : List Word) (address : Nat) : Word

end Sys2Proof
end

