-- ==== Sys2Proof/Machine/State.lean ====
section
/-! DEFINITION. The state of the engine (10_state.md R20) with the host's port beside it, the state after power-on, and
the reasons a step could stop. -/

namespace Sys2Proof.Machine

/-- A step of the host (00_scope.md R9). -/
inductive HostStep where
  /-- `Reset` (R330) -/
  | reset
  /-- `HostRead(a)` (R53) -/
  | read (a : Word)
  /-- `HostWrite(a, v)` (R54); with `a` the address of `CMD` it executes the command `v` -/
  | write (a v : Word)
  deriving DecidableEq, Repr

/-- What the host was told about its last step (R53 to R55). -/
inductive HostResponse where
  /-- the host has taken no step yet -/
  | idle
  /-- the reset is done (R330) -/
  | resetDone
  /-- the write was performed (R54); a command's outcome is in `STATUS` (R300) -/
  | written
  /-- the read returned this word (R53) -/
  | word (w : Word)
  /-- the bus refused the access and no element changed (R55) -/
  | busError
  deriving DecidableEq, Repr

/-- The complete state of the engine (R20), then the host's port, which is the model's own (log entries 1, 3, 7). -/
structure State where
  /-- `CMD` (R21) -/
  cmd : Word
  /-- `STATUS` (R22) -/
  status : Word
  /-- `KSTAG` (R23) -/
  kstag : Word
  /-- `CONFIG` (R28) -/
  config : Word
  /-- `KEY[0..13]` (R25) -/
  key : Vector Word 14
  /-- `CHAIN[0..3]` (R26) -/
  chain : Vector Word 4
  /-- `KSF[0..1041]` (R30) -/
  ksf : Vector Word 1042
  /-- `KSI[0..59]` (R35) -/
  ksi : Vector Word 60
  /-- `DATA[0..DATA_WORDS-1]` (R27) -/
  data : List Word
  /-- the model's own: the host steps still to be performed, oldest first (R9) -/
  requests : List HostStep
  /-- the model's own: what the host was told about its last step -/
  response : HostResponse
  /-- the model's own: the resets since power-on, which number the free values of a reset -/
  resets : Nat
  deriving DecidableEq, Repr

/-- Reasons for the machine to stop with a fault. There are none: every word in every state and every host access has
exactly one outcome (93_implementation_defined.md), a command error is a next state (R300) and a bus error is a next
state that tells the host so (R55; log entries 2 and 18). -/
inductive Fault where
  deriving DecidableEq, Repr

/-- Reasons for the machine to refuse a command. -/
inductive Refusal where
  /-- Raised only by an arm of `exec` that has no meaning yet; no arm has it. Safe: the machine stops where the engine
  goes on. -/
  | notModelled (mnemonic : String)
  deriving DecidableEq, Repr

/-- The state right after power-on, which is a reset (R40, R330): `CMD`, `STATUS`, `KSTAG`, `KEY` and `CHAIN` are 0,
`CONFIG` holds `DATA_WORDS`, and every word of `KSF`, `KSI` and `DATA` is unspecified. The host has done nothing. -/
def State.reset : State where
  cmd := 0
  status := 0
  kstag := 0
  config := BitVec.ofNat 32 Config.dataWords
  key := Vector.replicate 14 0
  chain := Vector.replicate 4 0
  ksf := ⟨((List.range 1042).map fun i => Config.wordAfterReset 0 [] (0x400 + i)).toArray, by simp⟩
  ksi := ⟨((List.range 60).map fun i => Config.wordAfterReset 0 [] (0xC00 + i)).toArray, by simp⟩
  data := (List.range Config.dataWords).map fun i => Config.wordAfterReset 0 [] (0x10000 + i)
  requests := []
  response := .idle
  resets := 0

end Sys2Proof.Machine
end

