-- ==== Sys2Proof/Machine/Flags.lean ====
section
/-! DEFINITION. The status bits of the engine: `STATUS.ERR` (10_state.md R22, 60_exceptions.md R301) and the fields of
`KSTAG` (R23), read and computed in one place. The engine has no other flags (R37). -/

namespace Sys2Proof.Machine

/-- The code of a command error, the value of `STATUS.ERR` (R301). -/
def errorCode (e : CommandError) : BitVec 4 :=
  match e with
  | .invalidKeySize => 1
  | .unsupportedMode => 2
  | .misalignedInput => 3
  | .outOfBounds => 4
  | .scheduleNotReady => 5
  | .illegalCommand => 6

/-- The word `STATUS` holds when `ERR` has this code: bits 31:4 are hardwired 0 (R22). -/
def statusWord (err : BitVec 4) : Word := err.setWidth 32

/-- `STATUS.ERR` (R22). -/
def State.err (s : State) : BitVec 4 := s.status.extractLsb' 0 4

/-- `NR(c, kw)` of 00_scope.md R11. -/
def roundCount (c : Cipher) (kw : Nat) : Nat :=
  match c with
  | .aes => kw + 6
  | .des | .tdes | .bf => 16

/-- The `KSTAG` word a successful `KEYEXP` writes: `CIPHER`, `NR`, `FWD = 1`, `INV = 0` (R23, R104). -/
def kstagWord (c : Cipher) (nr : Nat) : Word :=
  c.code.setWidth 32 ||| (BitVec.ofNat 5 nr).setWidth 32 <<< 2 ||| 1#32 <<< 8

/-- `KSTAG` with `INV <- 1` and the other fields unchanged (R110). -/
def kstagWithInv (k : Word) : Word := k ||| 1#32 <<< 9

/-- `KSTAG.CIPHER` (R23). -/
def State.kstagCipher (s : State) : BitVec 2 := s.kstag.extractLsb' 0 2
/-- `KSTAG.NR` as a number of rounds (R23). -/
def State.kstagNr (s : State) : Nat := (s.kstag.extractLsb' 2 5).toNat
/-- `KSTAG.FWD` (R23). -/
def State.kstagFwd (s : State) : Bool := s.kstag.getLsbD 8
/-- `KSTAG.INV` (R23). -/
def State.kstagInv (s : State) : Bool := s.kstag.getLsbD 9

/-- `DATA_WORDS` as `CONFIG[15:0]` holds it (R28). -/
def State.dataWords (s : State) : Nat := (s.config.extractLsb' 0 16).toNat

end Sys2Proof.Machine
end

