-- ==== Sys2Proof/Machine/Ops.lean ====
section
/-! DEFINITION. The shared operations over the engine's elements: ending a command with an error or with success
(60_exceptions.md R303, R304), storing into the files and memories, the address map of the bus (20_memory.md R51) and
reading and writing an element through it. -/

namespace Sys2Proof.Machine

/-! ## Ending a command -/

/-- `raise E` (R303), the engine's whole exception entry (R309): `STATUS.ERR <- code(E)` and nothing else. `CMD` was
written before. There is no return from it (R310). -/
def State.raise (s : State) (e : CommandError) : State := { s with status := statusWord (errorCode e) }

/-- The end of a command that raised nothing: `STATUS.ERR <- 0` (R71). -/
def State.succeed (s : State) : State := { s with status := statusWord 0 }

/-! ## Storing lists of words -/

/-- `old` with its first words replaced by `new`, element by element; words beyond either list stay or are dropped. -/
def overlay : List Word → List Word → List Word
  | [], old => old
  | _ :: _, [] => []
  | w :: ws, _ :: os => w :: overlay ws os

theorem overlay_length : ∀ new old : List Word, (overlay new old).length = old.length
  | [], _ => rfl
  | _ :: _, [] => rfl
  | _ :: ws, _ :: os => congrArg (· + 1) (overlay_length ws os)

/-- A register file or memory with its first words replaced by `new` (R16: a list assignment writes element by
element), every word beyond `new` left as it was (R30, R35). -/
def overlayVector {k : Nat} (new : List Word) (old : Vector Word k) : Vector Word k :=
  ⟨(overlay new old.toList).toArray, by simp [overlay_length]⟩

/-- `KSF[0..]` replaced by a schedule, the words beyond it unchanged (R30). -/
def State.storeKsf (s : State) (ws : List Word) : State := { s with ksf := overlayVector ws s.ksf }

/-- `KSI[0..]` replaced by an inverse schedule, the words beyond it unchanged (R35). -/
def State.storeKsi (s : State) (ws : List Word) : State := { s with ksi := overlayVector ws s.ksi }

/-- `CHAIN[0..]` replaced by a block, the words beyond it unchanged (R26, R232). -/
def State.storeChain (s : State) (ws : List Word) : State := { s with chain := overlayVector ws s.chain }

/-! ## The bus: address map, reads, writes -/

/-- An element of the engine register space (R51). -/
inductive Element where
  | cmd
  | status
  | kstag
  | config
  | key (i : Fin 14)
  | chain (i : Fin 4)
  | ksf (i : Fin 1042)
  | ksi (i : Fin 60)
  | data (i : Nat)
  deriving DecidableEq, Repr

/-- The address map (R51): which element a word address names, `none` where nothing is mapped. -/
def addressMap (dataWords : Nat) (address : Word) : Option Element :=
  let a := address.toNat
  if a = 0x0 then some .cmd
  else if a = 0x1 then some .status
  else if a = 0x2 then some .kstag
  else if a = 0x3 then some .config
  else if h : 0x10 ≤ a ∧ a ≤ 0x1D then some (.key ⟨a - 0x10, by omega⟩)
  else if h : 0x20 ≤ a ∧ a ≤ 0x23 then some (.chain ⟨a - 0x20, by omega⟩)
  else if h : 0x400 ≤ a ∧ a ≤ 0x811 then some (.ksf ⟨a - 0x400, by omega⟩)
  else if h : 0xC00 ≤ a ∧ a ≤ 0xC3B then some (.ksi ⟨a - 0xC00, by omega⟩)
  else if 0x10000 ≤ a ∧ a < 0x10000 + dataWords then some (.data (a - 0x10000))
  else none

/-- The word an element holds. -/
def State.element (s : State) (e : Element) : Word :=
  match e with
  | .cmd => s.cmd
  | .status => s.status
  | .kstag => s.kstag
  | .config => s.config
  | .key i => s.key[i]
  | .chain i => s.chain[i]
  | .ksf i => s.ksf[i]
  | .ksi i => s.ksi[i]
  | .data i => s.data.getD i 0

/-- The word a host read of `a` returns, `none` where the read is a bus error (R53). -/
def State.busWord (s : State) (a : Word) : Option Word := (addressMap s.dataWords a).map s.element

/-- `HostRead(a)` (R53): the word, and no change of state; a bus error where nothing is mapped (R55). -/
def hostRead (a : Word) (s : State) : State :=
  match s.busWord a with
  | some w => { s with response := .word w }
  | none => { s with response := .busError }

/-- `HostWrite(a, v)` with `a` not `CMD` (R54): `KEY`, `CHAIN` and `DATA` take all 32 bits; a read-only element or an
unmapped address is a bus error that changes nothing (R55). A write of `CMD` is `hostStep`'s. -/
def hostWrite (a v : Word) (s : State) : State :=
  match addressMap s.dataWords a with
  | some (.key i) => { s with key := s.key.set i v, response := .written }
  | some (.chain i) => { s with chain := s.chain.set i v, response := .written }
  | some (.data i) => { s with data := s.data.set i v, response := .written }
  | _ => { s with response := .busError }

/-! ## Reset -/

/-- Every word the engine holds, in address order: what an unspecified word after a reset may depend on (U8). -/
def State.words (s : State) : List Word :=
  [s.cmd, s.status, s.kstag, s.config] ++ s.key.toList ++ s.chain.toList ++ s.ksf.toList ++ s.ksi.toList ++ s.data

/-- `Reset` (R330): control registers, `KEY` and `CHAIN` to 0, `CONFIG` kept, every word of `KSF`, `KSI` and `DATA`
unspecified. What the host will do next is the host's and stays (log entry 20). -/
def resetEngine (s : State) : State :=
  let draw := Config.wordAfterReset (s.resets + 1) s.words
  { s with
    cmd := 0
    status := 0
    kstag := 0
    key := Vector.replicate 14 0
    chain := Vector.replicate 4 0
    ksf := ⟨((List.range 1042).map fun i => draw (0x400 + i)).toArray, by simp⟩
    ksi := ⟨((List.range 60).map fun i => draw (0xC00 + i)).toArray, by simp⟩
    data := (List.range s.dataWords).map fun i => draw (0x10000 + i)
    response := .resetDone
    resets := s.resets + 1 }

/-! ## The form of memory -/

/-- `DATA` holds exactly `DATA_WORDS` words (R27): the one relation between the memories and the rest of State. The
other files and memories have their lengths in their types, and every word of each is listed, so that equal memories
are equal data (log entry 9). -/
def Memory.wf (s : State) : Bool := s.data.length == s.dataWords

end Sys2Proof.Machine
end

