-- ==== Sys2Proof/Machine/Operands.lean ====
section
/-! DEFINITION. The operands of the commands: the indexed element forms of 20_memory.md R59 (base element plus index,
nothing else), blocks of `DATA` and of `CHAIN` (47_mode_driver.md), and the block size of a cipher (00_scope.md R11).
Every index a command uses is in range once its checks have passed (R59); the 0 of `getD` is never read then (log
entry 12). -/

namespace Sys2Proof.Machine

/-- A block of `B` words (R10). -/
abbrev Block (B : Nat) := Vector Word B

/-- `B(c)`, the block size in words (R11). -/
def blockWords (c : Cipher) : Nat :=
  match c with
  | .aes => 4
  | .des | .tdes | .bf => 2

/-- `KEY[i]` (R25). -/
def State.keyWord (s : State) (i : Nat) : Word := s.key.toList.getD i 0
/-- `KSF[i]` (R30). -/
def State.ksfWord (s : State) (i : Nat) : Word := s.ksf.toList.getD i 0
/-- `KSI[i]` (R35). -/
def State.ksiWord (s : State) (i : Nat) : Word := s.ksi.toList.getD i 0
/-- `CHAIN[i]` (R26). -/
def State.chainWord (s : State) (i : Nat) : Word := s.chain.toList.getD i 0
/-- `DATA[i]` (R27). -/
def State.dataWord (s : State) (i : Nat) : Word := s.data.getD i 0

/-- The block of `B` words at the start of a list. -/
def blockAt (B : Nat) (ws : List Word) : Block B := Vector.ofFn fun i => ws.getD i.val 0

/-- `CH`, the block `CHAIN[0 .. B-1]`. -/
def State.chainBlock (s : State) (B : Nat) : Block B := Vector.ofFn fun i => s.chainWord i.val

/-- `D(k)`, the block `DATA[k*B .. k*B + B - 1]`. -/
def State.dataBlock (s : State) (B k : Nat) : Block B := Vector.ofFn fun i => s.dataWord (k * B + i.val)

/-- `X ^ Y` for two blocks, word by word. -/
def xorBlock {B : Nat} (x y : Block B) : Block B := Vector.zipWith (· ^^^ ·) x y

/-- `S[r][i] = KSF[base + 8r + i]`, a DES selector: only its low six bits are used (R32, R33, R159). -/
def State.desSelector (s : State) (base r i : Nat) : BitVec 6 := (s.ksfWord (base + 8 * r + i)).setWidth 6

/-- `P[i] = KSF[i]` (R34). -/
def State.bfP (s : State) (i : Nat) : Word := s.ksfWord i
/-- `S[b][j] = KSF[18 + 256b + j]` (R34). -/
def State.bfS (s : State) (b j : Nat) : Word := s.ksfWord (18 + 256 * b + j)

end Sys2Proof.Machine
end

