-- ==== Sys2Proof/Machine/Aes.lean ====
section
/-! DEFINITION. AES: the key expansion and the inverse schedule (40_aes_key_schedule.md R102, R103, R108, R109) and the
block transforms (41_aes_round.md R120 to R126). -/

namespace Sys2Proof.Machine

/-! ## Key schedule -/

/-- `RotWord(t)` (R102). -/
def rotWord (t : Word) : Word := rotl32 t 8

/-- `SubWord(t)` (R102). -/
def subWord (t : Word) : Word :=
  w4 (sbox (byteOf 0 t)) (sbox (byteOf 1 t)) (sbox (byteOf 2 t)) (sbox (byteOf 3 t))

/-- `RconWord(j) = RCON[j] << 24` (R102). -/
def rconWord (j : Nat) : Word := (rcon j).setWidth 32 <<< 24

/-- What R103 XORs onto `ks[i-Nk]` for `i >= Nk`, from `prev = ks[i-1]`; the middle branch is that of 8-word keys
(90_conflicts.md C1). -/
def aesExpandTemp (nk i : Nat) (prev : Word) : Word :=
  if i % nk = 0 then subWord (rotWord prev) ^^^ rconWord (i / nk)
  else if nk = 8 ∧ i % nk = 4 then subWord prev
  else prev

/-- `ks[i]` from the words before it (R103). -/
def aesExpandNext (nk : Nat) (key : Nat → Word) (ks : List Word) : Word :=
  let i := ks.length
  if i < nk then key i else ks.getD (i - nk) 0 ^^^ aesExpandTemp nk i (ks.getD (i - 1) 0)

/-- `ks[0 .. n-1]`, one word after the other in ascending order (R103). -/
def aesExpand (nk : Nat) (key : Nat → Word) : Nat → List Word
  | 0 => []
  | n + 1 => let ks := aesExpand nk key n; ks ++ [aesExpandNext nk key ks]

/-- `InvMixWord(t)` (R108). -/
def invMixWord (t : Word) : Word :=
  invSubMix 0 (sbox (byteOf 0 t)) ^^^ invSubMix 1 (sbox (byteOf 1 t)) ^^^
    invSubMix 2 (sbox (byteOf 2 t)) ^^^ invSubMix 3 (sbox (byteOf 3 t))

/-- `X` of R109: the first and last round keys are copied, the others go through `InvMixWord`. -/
def invKeyTransform (nr q : Nat) (t : Word) : Word := if q = 0 ∨ q = nr then t else invMixWord t

/-- `iks[4q .. 4q+3]` (R109): forward round key `NR - q`, its words in the order 0, 3, 2, 1. -/
def aesInverseRoundKey (nr : Nat) (ks : Nat → Word) (q : Nat) : List Word :=
  [0, 3, 2, 1].map fun w => invKeyTransform nr q (ks (4 * (nr - q) + w))

/-- `iks[0 .. 4*(NR+1)-1]` (R109). -/
def aesInverseSchedule (nr : Nat) (ks : Nat → Word) : List Word :=
  (List.range (nr + 1)).flatMap (aesInverseRoundKey nr ks)

/-! ## Block transforms -/

/-- Add round key: `s[c] = b[c] ^ rk[k + c]` (R121). -/
def aesAddKey (rk : Nat → Word) (k : Nat) (b : Block 4) : Block 4 := Vector.ofFn fun c => b[c] ^^^ rk (k + c.val)

/-- A main round of R121: substitute, shift and mix by four tables, then add the round key at `k`. Byte `r` is taken
from column `(c + r) mod 4`; addition in `Fin 4` is modulo 4. -/
def aesRound (T : Nat → Byte → Word) (rk : Nat → Word) (k : Nat) (s : Block 4) : Block 4 :=
  Vector.ofFn fun c : Fin 4 =>
    T 0 (byteOf 0 s[c]) ^^^ T 1 (byteOf 1 s[c + 1]) ^^^ T 2 (byteOf 2 s[c + 2]) ^^^ T 3 (byteOf 3 s[c + 3]) ^^^
      rk (k + c.val)

/-- The final round of R121, without mix. -/
def aesFinalRound (sb : Byte → Byte) (rk : Nat → Word) (k : Nat) (s : Block 4) : Block 4 :=
  Vector.ofFn fun c : Fin 4 =>
    w4 (sb (byteOf 0 s[c])) (sb (byteOf 1 s[c + 1])) (sb (byteOf 2 s[c + 2])) (sb (byteOf 3 s[c + 3])) ^^^
      rk (k + c.val)

/-- Main rounds `1 .. m`, round `j` with the round key at `4*j` (R121). -/
def aesMainRounds (T : Nat → Byte → Word) (rk : Nat → Word) : Nat → Block 4 → Block 4
  | 0, s => s
  | m + 1, s => aesRound T rk (4 * (m + 1)) (aesMainRounds T rk m s)

/-- `AesCore(b, rk, NR, T0..T3, SB)` (R121). -/
def aesCore (T : Nat → Byte → Word) (sb : Byte → Byte) (rk : Nat → Word) (nr : Nat) (b : Block 4) : Block 4 :=
  aesFinalRound sb rk (4 * nr) (aesMainRounds T rk (nr - 1) (aesAddKey rk 0 b))

/-- The exchange of the 2nd and 4th words (R126). -/
def aesSwap (b : Block 4) : Block 4 := #v[b[0], b[3], b[2], b[1]]

/-- The forward transform over a schedule and a round count (R122). -/
def aesEncrypt (ks : Nat → Word) (nr : Nat) (b : Block 4) : Block 4 := aesCore subMix sbox ks nr b

/-- The inverse transform over an inverse schedule and a round count (R126). -/
def aesDecrypt (iks : Nat → Word) (nr : Nat) (b : Block 4) : Block 4 :=
  aesSwap (aesCore invSubMix invSbox iks nr (aesSwap b))

/-- `Ef_AES` (R122): `KSF` and `NR = KSTAG.NR`. -/
def efAes (s : State) (b : Block 4) : Block 4 := aesEncrypt s.ksfWord s.kstagNr b

/-- `Ei_AES` (R126): `KSI` and `NR = KSTAG.NR`. -/
def eiAes (s : State) (b : Block 4) : Block 4 := aesDecrypt s.ksiWord s.kstagNr b

end Sys2Proof.Machine
end

