-- ==== Sys2Proof/Machine/Blowfish.lean ====
section
/-! DEFINITION. Blowfish: the F-function and the network (46_blowfish_round.md R205 to R208) and the key schedule
(45_blowfish_key_schedule.md R191, R192). -/

namespace Sys2Proof.Machine

/-! ## The network -/

/-- `F(S, x)` (R205): add, XOR, add, modulo 2^32. -/
def fBf (S : Nat → Nat → Word) (x : Word) : Word :=
  ((S 0 (byteOf 0 x).toNat + S 1 (byteOf 1 x).toNat) ^^^ S 2 (byteOf 2 x).toNat) + S 3 (byteOf 3 x).toNat

/-- A round with P-array entry `p`: `L ^= p`, `R ^= F(S, L)` with the new `L`, then the swap (R207). -/
def bfRound (S : Nat → Nat → Word) (p : Word) (lr : Word × Word) : Word × Word :=
  let l := lr.1 ^^^ p
  (lr.2 ^^^ fBf S l, l)

/-- The network of R207 and R208: 16 rounds with the P-array entries of `order`, the last swap undone, then
`R ^= pR` and `L ^= pL`. -/
def bfNetwork (S : Nat → Nat → Word) (order : List Word) (pR pL : Word) (b : Block 2) : Block 2 :=
  let lr := order.foldl (fun lr p => bfRound S p lr) (b[0], b[1])
  #v[lr.2 ^^^ pL, lr.1 ^^^ pR]

/-- `BfEnc(b, P, S)` (R207). -/
def bfEnc (P : Nat → Word) (S : Nat → Nat → Word) (b : Block 2) : Block 2 :=
  bfNetwork S ((List.range 16).map P) (P 16) (P 17) b

/-- `BfDec(b, P, S)` (R208): entries 17 down to 2 in the rounds, then 1 and 0. -/
def bfDec (P : Nat → Word) (S : Nat → Nat → Word) (b : Block 2) : Block 2 :=
  bfNetwork S ((List.range 16).map fun i => P (17 - i)) (P 1) (P 0) b

/-- `Ef_BF` (R207). -/
def efBf (s : State) (b : Block 2) : Block 2 := bfEnc s.bfP s.bfS b

/-- `Ei_BF` (R208). -/
def eiBf (s : State) (b : Block 2) : Block 2 := bfDec s.bfP s.bfS b

/-! ## Key schedule -/

/-- The running tables `P` and `S` of R192 as 1042 words in the layout of R34: `P[i]` is word `i`, `S[b][j]` is word
`18 + 256b + j`. -/
abbrev BfTables := List Word

/-- `P[i]` of the running tables. -/
def tableP (t : BfTables) (i : Nat) : Word := t.getD i 0
/-- `S[b][j]` of the running tables. -/
def tableS (t : BfTables) (b j : Nat) : Word := t.getD (18 + 256 * b + j) 0

/-- Initialisation (R191): the key XORed cyclically, word by word, into the default P-array; the default S-boxes. -/
def bfInitialTables (kw : Nat) (key : Nat → Word) : BfTables :=
  ((List.range 18).map fun i => bfP0 i ^^^ key (i % kw)) ++
    (List.range 4).flatMap fun b => (List.range 256).map fun j => bfS0 b j

/-- One bootstrap step of R192: encrypt `d` with the tables as they stand now and overwrite the words `j` and `j+1`. -/
def bfBootstrapStep (td : BfTables × Block 2) (j : Nat) : BfTables × Block 2 :=
  let d := bfEnc (tableP td.1) (tableS td.1) td.2
  ((td.1.set j d[0]).set (j + 1) d[1], d)

/-- The words the bootstrap overwrites, in order (R192): 9 pairs of the P-array, then 128 pairs of each box. -/
def bfBootstrapOrder : List Nat :=
  ((List.range 9).map fun k => 2 * k) ++
    (List.range 4).flatMap fun b => (List.range 128).map fun k => 18 + 256 * b + 2 * k

/-- The Blowfish schedule of a key (R191, R192): 521 steps from the all-zero block. -/
def bfSchedule (kw : Nat) (key : Nat → Word) : BfTables :=
  (bfBootstrapOrder.foldl bfBootstrapStep (bfInitialTables kw key, #v[0, 0])).1

end Sys2Proof.Machine
end

