-- ==== Sys2Proof/Machine/Des.lean ====
section
/-! DEFINITION. DES: the key schedule (42_des_key_schedule.md R141 to R145), the block network (43_des_round.md R155 to
R160) and the Triple-DES composition (44_tdes.md R176 to R179). -/

namespace Sys2Proof.Machine

/-! ## Key schedule -/

/-- `KeyBit(j)` for j = 1..64 (R141): bit 1 is the most significant bit of the first key word. -/
def desKeyBit (k0 k1 : Word) (j : Nat) : Bool :=
  (if (j - 1) / 32 = 0 then k0 else k1).getLsbD (31 - (j - 1) % 32)

/-- The halves `C`, `D` after PC1 (R141), index 0 leftmost. -/
def desHalves (k0 k1 : Word) : List Bool × List Bool :=
  let cd := pc1.map (desKeyBit k0 k1)
  (cd.take 28, cd.drop 28)

/-- A half rotated left: `C'[i] = C[(i + s) mod 28]` (R142). -/
def desRotate (s : Nat) (half : List Bool) : List Bool :=
  (List.range 28).map fun i => half.getD ((i + s) % 28) false

/-- The halves after the rotation of round `r`: those of rounds 0 to `r` one after the other (R142). -/
def desRotatedHalves (k0 k1 : Word) (r : Nat) : List Bool × List Bool :=
  (desShifts.take (r + 1)).foldl (fun cd s => (desRotate s cd.1, desRotate s cd.2)) (desHalves k0 k1)

/-- `kb[i] = CDr[PC2[i] - 1]` (R143). -/
def desKeyBitPc2 (cdr : List Bool) (i : Nat) : Bool := cdr.getD (pc2.getD i 0 - 1) false

/-- Selector `i` of a round from its 56 bits `CDr` (R143): `kb[6i]` is its most significant bit. -/
def desSelectorOf (cdr : List Bool) (i : Nat) : BitVec 6 :=
  let kb := fun j => (BitVec.ofBool (desKeyBitPc2 cdr (6 * i + j))).setWidth 6
  kb 0 <<< 5 ||| kb 1 <<< 4 ||| kb 2 <<< 3 ||| kb 3 <<< 2 ||| kb 4 <<< 1 ||| kb 5

/-- The eight selectors of round `r` (R143). -/
def desRoundSelectors (k0 k1 : Word) (r : Nat) : List (BitVec 6) :=
  let cd := desRotatedHalves k0 k1 r
  (List.range 8).map (desSelectorOf (cd.1 ++ cd.2))

/-- `DesSchedule(k0, k1)` (R145) in the layout of R32: word `8r + i` is `zext_32(SEL(r, i))`. -/
def desSchedule (k0 k1 : Word) : List Word :=
  (List.range 16).flatMap fun r => (desRoundSelectors k0 k1 r).map zext32

/-! ## Bit-interchange steps -/

/-- `ExLR(L, R, n, m)` (R156). -/
def exLR (n : Nat) (m : Word) (lr : Word × Word) : Word × Word :=
  let t := ((lr.1 >>> n) ^^^ lr.2) &&& m
  (lr.1 ^^^ (t <<< n), lr.2 ^^^ t)

/-- `ExRL(L, R, n, m)` (R156). -/
def exRL (n : Nat) (m : Word) (lr : Word × Word) : Word × Word :=
  let t := ((lr.2 >>> n) ^^^ lr.1) &&& m
  (lr.1 ^^^ t, lr.2 ^^^ (t <<< n))

/-- The initial permutation `IP(L, R)`: five exchange steps (R157, R277). -/
def desInitialPermutation (lr : Word × Word) : Word × Word :=
  exLR 1 0x55555555 (exRL 8 0x00FF00FF (exRL 2 0x33333333 (exLR 16 0x0000FFFF (exLR 4 0x0F0F0F0F lr))))

/-- The final permutation `FP(L, R)`: the same five steps in the opposite order (R158). -/
def desFinalPermutation (lr : Word × Word) : Word × Word :=
  exLR 4 0x0F0F0F0F (exLR 16 0x0000FFFF (exRL 2 0x33333333 (exRL 8 0x00FF00FF (exLR 1 0x55555555 lr))))

/-! ## The network -/

/-- `ESel(R, i)` for i = 0..7 (R159). -/
def eSel (r : Word) (i : Nat) : BitVec 6 := (rotl32 (rotr32 r 1) (4 * i) >>> 26).setWidth 6

/-- One S-box lookup of the round function: `SP_i[ESel(R, i) ^ sel[i]]` (R159). -/
def desBoxOutput (r : Word) (sel : Nat → BitVec 6) (i : Nat) : Word := sp i (eSel r i ^^^ sel i)

/-- `F_DES(R, sel)` (R159): the XOR of the eight lookups. -/
def fDes (r : Word) (sel : Nat → BitVec 6) : Word :=
  desBoxOutput r sel 0 ^^^ desBoxOutput r sel 1 ^^^ desBoxOutput r sel 2 ^^^ desBoxOutput r sel 3 ^^^
    desBoxOutput r sel 4 ^^^ desBoxOutput r sel 5 ^^^ desBoxOutput r sel 6 ^^^ desBoxOutput r sel 7

/-- A Feistel round: `(L, R) = (R, L ^ F_DES(R, sel))` (R160). -/
def desRound (sel : Nat → BitVec 6) (lr : Word × Word) : Word × Word := (lr.2, lr.1 ^^^ fDes lr.2 sel)

/-- `DesCore(b, S, order)` (R160): IP, the rounds in the given order, the last swap undone, FP. -/
def desCore (sel : Nat → Nat → BitVec 6) (order : List Nat) (b : Block 2) : Block 2 :=
  let lr := order.foldl (fun lr r => desRound (sel r) lr) (desInitialPermutation (b[0], b[1]))
  let out := desFinalPermutation (lr.2, lr.1)
  #v[out.1, out.2]

/-- `DesEnc(b, S)`: rounds 0 to 15 (R160). -/
def desEnc (sel : Nat → Nat → BitVec 6) (b : Block 2) : Block 2 := desCore sel (List.range 16) b

/-- `DesDec(b, S)`: rounds 15 down to 0 (R160). -/
def desDec (sel : Nat → Nat → BitVec 6) (b : Block 2) : Block 2 := desCore sel (List.range 16).reverse b

/-- `Ef_DES` (R160). -/
def efDes (s : State) (b : Block 2) : Block 2 := desEnc (s.desSelector 0) b

/-- `Ei_DES` (R160). -/
def eiDes (s : State) (b : Block 2) : Block 2 := desDec (s.desSelector 0) b

/-! ## Triple-DES -/

/-- The three schedules of `KEYEXP.TDES` one after the other, the layout of R33 (R176). -/
def tdesSchedule (key : Nat → Word) : List Word :=
  desSchedule (key 0) (key 1) ++ desSchedule (key 2) (key 3) ++ desSchedule (key 4) (key 5)

/-- Encrypt, decrypt, encrypt, key 1 first (R178, R180; 90_conflicts.md C5). -/
def tdesEnc (sel0 sel1 sel2 : Nat → Nat → BitVec 6) (b : Block 2) : Block 2 :=
  desEnc sel2 (desDec sel1 (desEnc sel0 b))

/-- Decrypt, encrypt, decrypt, key 3 first (R179). -/
def tdesDec (sel0 sel1 sel2 : Nat → Nat → BitVec 6) (b : Block 2) : Block 2 :=
  desDec sel0 (desEnc sel1 (desDec sel2 b))

/-- `Ef_TDES` (R178): `S_k[r][i] = KSF[128k + 8r + i]`. -/
def efTdes (s : State) (b : Block 2) : Block 2 :=
  tdesEnc (s.desSelector 0) (s.desSelector 128) (s.desSelector 256) b

/-- `Ei_TDES` (R179). -/
def eiTdes (s : State) (b : Block 2) : Block 2 :=
  tdesDec (s.desSelector 0) (s.desSelector 128) (s.desSelector 256) b

end Sys2Proof.Machine
end

