-- ==== Sys2Proof/Machine/KeyCommands.lean ====
section
/-! DEFINITION. The meanings of the key commands: `KEYEXP.AES`, `KEYEXP.DES`, `KEYEXP.TDES`, `KEYEXP.BF` and
`INVKEY.AES`. -/

namespace Sys2Proof.Machine

/-- The end of a successful `KEYEXP`: the schedule in `KSF`, `KSTAG` tagged with `FWD = 1` and `INV = 0`,
`STATUS.ERR <- 0` (R104, R144, R177, R193). -/
def installSchedule (c : Cipher) (kw : Nat) (ws : List Word) (s : State) : State :=
  { s.storeKsf ws with kstag := kstagWord c (roundCount c kw) }.succeed

/-- A `KEYEXP` command: `InvalidKeySize` unless the key size is supported, else the schedule is installed. -/
def keyexp (c : Cipher) (supported : Bool) (kw : Nat) (ws : List Word) (s : State) :
    Host.Outcome State Fault Refusal :=
  if supported then .next (installSchedule c kw ws s) else .next (s.raise .invalidKeySize)

/-- `KEYEXP.AES kw` (R100): the key-size check of R101, the expansion of R103, the state of R104. -/
def execKeyexpAes (kw : Nat) (s : State) : Host.Outcome State Fault Refusal :=
  keyexp .aes (kw == 4 || kw == 6 || kw == 8) kw (aesExpand kw s.keyWord (4 * (roundCount .aes kw + 1))) s

/-- `KEYEXP.DES kw` (R140, R144). -/
def execKeyexpDes (kw : Nat) (s : State) : Host.Outcome State Fault Refusal :=
  keyexp .des (kw == 2) kw (desSchedule (s.keyWord 0) (s.keyWord 1)) s

/-- `KEYEXP.TDES kw` (R175 to R177). -/
def execKeyexpTdes (kw : Nat) (s : State) : Host.Outcome State Fault Refusal :=
  keyexp .tdes (kw == 6) kw (tdesSchedule s.keyWord) s

/-- `KEYEXP.BF kw` (R190 to R193). -/
def execKeyexpBf (kw : Nat) (s : State) : Host.Outcome State Fault Refusal :=
  keyexp .bf (1 ≤ kw && kw ≤ 14) kw (bfSchedule kw s.keyWord) s

/-- `INVKEY.AES` (R107, R109, R110). -/
def execInvkeyAes (s : State) : Host.Outcome State Fault Refusal :=
  if s.kstagFwd = false ∨ s.kstagCipher ≠ Cipher.aes.code then .next (s.raise .scheduleNotReady)
  else
    .next { s.storeKsi (aesInverseSchedule s.kstagNr s.ksfWord) with kstag := kstagWithInv s.kstag }.succeed

end Sys2Proof.Machine
end

