-- ==== Sys2Proof/Machine/ModeDriver.lean ====
section
/-! DEFINITION. The shared block-mode state machine (47_mode_driver.md): the checks of R220, the iteration of R221 and
the ten block steps R222 to R231, which hold for all four ciphers. -/

namespace Sys2Proof.Machine

/-- A block step: from the input block `x = D(blk)` and `CH`, the new `D(blk)` and the new `CH`. Both results use the
values from before the step (R222 to R231). -/
abbrev BlockStep (B : Nat) := Block B → Block B → Block B × Block B

/-- ECB (R222 with `Ef`, R223 with `Ei`): `CHAIN` keeps its value. -/
def ecbStep {B : Nat} (transform : Block B → Block B) : BlockStep B := fun x ch => (transform x, ch)

/-- CBC encryption (R224). -/
def cbcEncStep {B : Nat} (ef : Block B → Block B) : BlockStep B := fun x ch =>
  let y := ef (xorBlock x ch)
  (y, y)

/-- CBC decryption (R225): the ciphertext block consumed becomes `CH`. -/
def cbcDecStep {B : Nat} (ei : Block B → Block B) : BlockStep B := fun x ch => (xorBlock (ei x) ch, x)

/-- CFB encryption (R226): the ciphertext is the output. -/
def cfbEncStep {B : Nat} (ef : Block B → Block B) : BlockStep B := fun x ch =>
  let y := xorBlock x (ef ch)
  (y, y)

/-- CFB decryption (R227): the ciphertext is the input. -/
def cfbDecStep {B : Nat} (ef : Block B → Block B) : BlockStep B := fun x ch => (xorBlock x (ef ch), x)

/-- OFB, both directions (R228, R229). -/
def ofbStep {B : Nat} (ef : Block B → Block B) : BlockStep B := fun x ch =>
  let ks := ef ch
  (xorBlock x ks, ks)

/-- The counter increment (R231): the last word plus 1 modulo 2^32, no carry into the words before it. -/
def counterNext {B : Nat} (ch : Block B) : Block B :=
  Vector.ofFn fun i => if i.val + 1 = B then ch[i] + 1 else ch[i]

/-- CTR, both directions (R230, R231). -/
def ctrStep {B : Nat} (ef : Block B → Block B) : BlockStep B := fun x ch => (xorBlock x (ef ch), counterNext ch)

/-- The iteration of R221 over the first `nb` blocks of a list of words, in ascending order: each block is replaced in
place and the chain block is threaded through; words beyond the blocks stay. -/
def runBlocks {B : Nat} (step : BlockStep B) : Nat → List Word → Block B → List Word × Block B
  | 0, ws, ch => (ws, ch)
  | nb + 1, ws, ch =>
    let out := step (blockAt B ws) ch
    let rest := runBlocks step nb (ws.drop B) out.2
    (out.1.toList ++ rest.1, rest.2)

/-- The checks of R220 in their order; `needInv` says that the command needs the AES inverse schedule. -/
def modeError (c : Cipher) (needInv : Bool) (n : Nat) (s : State) : Option CommandError :=
  if s.kstagFwd = false ∨ s.kstagCipher ≠ c.code then some .scheduleNotReady
  else if needInv = true ∧ s.kstagInv = false then some .scheduleNotReady
  else if n % blockWords c ≠ 0 then some .misalignedInput
  else if n > s.dataWords then some .outOfBounds
  else none

/-- The state after the blocks of a mode command (R221, R232): `DATA[0..n-1]` and `CHAIN[0..B-1]` replaced. -/
def processBlocks {B : Nat} (step : BlockStep B) (n : Nat) (s : State) : State :=
  let out := runBlocks step (n / B) s.data (s.chainBlock B)
  { s.storeChain out.2.toList with data := out.1 }

/-- A mode command (R220, R221): refused by the first failing check, else run and ended with success. -/
def modeCommand {B : Nat} (c : Cipher) (needInv : Bool) (step : BlockStep B) (n : Nat) (s : State) :
    Host.Outcome State Fault Refusal :=
  match modeError c needInv n s with
  | some e => .next (s.raise e)
  | none => .next (processBlocks step n s).succeed

end Sys2Proof.Machine
end

