-- ==== Sys2Proof/Machine/ModeCommands.lean ====
section
/-! DEFINITION. The meanings of the forty mode commands (47_mode_driver.md R222 to R231), one definition each: the
cipher's block function (R221 table) in the block step of the mode. Only `DEC.ECB.AES` and `DEC.CBC.AES` need the
inverse schedule (R220, R221). -/

namespace Sys2Proof.Machine

/-- `ENC.ECB.AES n` (R222). -/
def execEncEcbAes (n : Nat) (s : State) : Host.Outcome State Fault Refusal :=
  modeCommand .aes false (ecbStep (efAes s)) n s

/-- `ENC.ECB.DES n` (R222). -/
def execEncEcbDes (n : Nat) (s : State) : Host.Outcome State Fault Refusal :=
  modeCommand .des false (ecbStep (efDes s)) n s

/-- `ENC.ECB.TDES n` (R222). -/
def execEncEcbTdes (n : Nat) (s : State) : Host.Outcome State Fault Refusal :=
  modeCommand .tdes false (ecbStep (efTdes s)) n s

/-- `ENC.ECB.BF n` (R222). -/
def execEncEcbBf (n : Nat) (s : State) : Host.Outcome State Fault Refusal :=
  modeCommand .bf false (ecbStep (efBf s)) n s

/-- `DEC.ECB.AES n` (R223). -/
def execDecEcbAes (n : Nat) (s : State) : Host.Outcome State Fault Refusal :=
  modeCommand .aes true (ecbStep (eiAes s)) n s

/-- `DEC.ECB.DES n` (R223). -/
def execDecEcbDes (n : Nat) (s : State) : Host.Outcome State Fault Refusal :=
  modeCommand .des false (ecbStep (eiDes s)) n s

/-- `DEC.ECB.TDES n` (R223). -/
def execDecEcbTdes (n : Nat) (s : State) : Host.Outcome State Fault Refusal :=
  modeCommand .tdes false (ecbStep (eiTdes s)) n s

/-- `DEC.ECB.BF n` (R223). -/
def execDecEcbBf (n : Nat) (s : State) : Host.Outcome State Fault Refusal :=
  modeCommand .bf false (ecbStep (eiBf s)) n s

/-- `ENC.CBC.AES n` (R224). -/
def execEncCbcAes (n : Nat) (s : State) : Host.Outcome State Fault Refusal :=
  modeCommand .aes false (cbcEncStep (efAes s)) n s

/-- `ENC.CBC.DES n` (R224). -/
def execEncCbcDes (n : Nat) (s : State) : Host.Outcome State Fault Refusal :=
  modeCommand .des false (cbcEncStep (efDes s)) n s

/-- `ENC.CBC.TDES n` (R224). -/
def execEncCbcTdes (n : Nat) (s : State) : Host.Outcome State Fault Refusal :=
  modeCommand .tdes false (cbcEncStep (efTdes s)) n s

/-- `ENC.CBC.BF n` (R224). -/
def execEncCbcBf (n : Nat) (s : State) : Host.Outcome State Fault Refusal :=
  modeCommand .bf false (cbcEncStep (efBf s)) n s

/-- `DEC.CBC.AES n` (R225). -/
def execDecCbcAes (n : Nat) (s : State) : Host.Outcome State Fault Refusal :=
  modeCommand .aes true (cbcDecStep (eiAes s)) n s

/-- `DEC.CBC.DES n` (R225). -/
def execDecCbcDes (n : Nat) (s : State) : Host.Outcome State Fault Refusal :=
  modeCommand .des false (cbcDecStep (eiDes s)) n s

/-- `DEC.CBC.TDES n` (R225). -/
def execDecCbcTdes (n : Nat) (s : State) : Host.Outcome State Fault Refusal :=
  modeCommand .tdes false (cbcDecStep (eiTdes s)) n s

/-- `DEC.CBC.BF n` (R225). -/
def execDecCbcBf (n : Nat) (s : State) : Host.Outcome State Fault Refusal :=
  modeCommand .bf false (cbcDecStep (eiBf s)) n s

/-- `ENC.CFB.AES n` (R226). -/
def execEncCfbAes (n : Nat) (s : State) : Host.Outcome State Fault Refusal :=
  modeCommand .aes false (cfbEncStep (efAes s)) n s

/-- `ENC.CFB.DES n` (R226). -/
def execEncCfbDes (n : Nat) (s : State) : Host.Outcome State Fault Refusal :=
  modeCommand .des false (cfbEncStep (efDes s)) n s

/-- `ENC.CFB.TDES n` (R226). -/
def execEncCfbTdes (n : Nat) (s : State) : Host.Outcome State Fault Refusal :=
  modeCommand .tdes false (cfbEncStep (efTdes s)) n s

/-- `ENC.CFB.BF n` (R226). -/
def execEncCfbBf (n : Nat) (s : State) : Host.Outcome State Fault Refusal :=
  modeCommand .bf false (cfbEncStep (efBf s)) n s

/-- `DEC.CFB.AES n` (R227). -/
def execDecCfbAes (n : Nat) (s : State) : Host.Outcome State Fault Refusal :=
  modeCommand .aes false (cfbDecStep (efAes s)) n s

/-- `DEC.CFB.DES n` (R227). -/
def execDecCfbDes (n : Nat) (s : State) : Host.Outcome State Fault Refusal :=
  modeCommand .des false (cfbDecStep (efDes s)) n s

/-- `DEC.CFB.TDES n` (R227). -/
def execDecCfbTdes (n : Nat) (s : State) : Host.Outcome State Fault Refusal :=
  modeCommand .tdes false (cfbDecStep (efTdes s)) n s

/-- `DEC.CFB.BF n` (R227). -/
def execDecCfbBf (n : Nat) (s : State) : Host.Outcome State Fault Refusal :=
  modeCommand .bf false (cfbDecStep (efBf s)) n s

/-- `ENC.OFB.AES n` (R228). -/
def execEncOfbAes (n : Nat) (s : State) : Host.Outcome State Fault Refusal :=
  modeCommand .aes false (ofbStep (efAes s)) n s

/-- `ENC.OFB.DES n` (R228). -/
def execEncOfbDes (n : Nat) (s : State) : Host.Outcome State Fault Refusal :=
  modeCommand .des false (ofbStep (efDes s)) n s

/-- `ENC.OFB.TDES n` (R228). -/
def execEncOfbTdes (n : Nat) (s : State) : Host.Outcome State Fault Refusal :=
  modeCommand .tdes false (ofbStep (efTdes s)) n s

/-- `ENC.OFB.BF n` (R228). -/
def execEncOfbBf (n : Nat) (s : State) : Host.Outcome State Fault Refusal :=
  modeCommand .bf false (ofbStep (efBf s)) n s

/-- `DEC.OFB.AES n` (R229). -/
def execDecOfbAes (n : Nat) (s : State) : Host.Outcome State Fault Refusal :=
  modeCommand .aes false (ofbStep (efAes s)) n s

/-- `DEC.OFB.DES n` (R229). -/
def execDecOfbDes (n : Nat) (s : State) : Host.Outcome State Fault Refusal :=
  modeCommand .des false (ofbStep (efDes s)) n s

/-- `DEC.OFB.TDES n` (R229). -/
def execDecOfbTdes (n : Nat) (s : State) : Host.Outcome State Fault Refusal :=
  modeCommand .tdes false (ofbStep (efTdes s)) n s

/-- `DEC.OFB.BF n` (R229). -/
def execDecOfbBf (n : Nat) (s : State) : Host.Outcome State Fault Refusal :=
  modeCommand .bf false (ofbStep (efBf s)) n s

/-- `ENC.CTR.AES n` (R230). -/
def execEncCtrAes (n : Nat) (s : State) : Host.Outcome State Fault Refusal :=
  modeCommand .aes false (ctrStep (efAes s)) n s

/-- `ENC.CTR.DES n` (R230). -/
def execEncCtrDes (n : Nat) (s : State) : Host.Outcome State Fault Refusal :=
  modeCommand .des false (ctrStep (efDes s)) n s

/-- `ENC.CTR.TDES n` (R230). -/
def execEncCtrTdes (n : Nat) (s : State) : Host.Outcome State Fault Refusal :=
  modeCommand .tdes false (ctrStep (efTdes s)) n s

/-- `ENC.CTR.BF n` (R230). -/
def execEncCtrBf (n : Nat) (s : State) : Host.Outcome State Fault Refusal :=
  modeCommand .bf false (ctrStep (efBf s)) n s

/-- `DEC.CTR.AES n` (R231). -/
def execDecCtrAes (n : Nat) (s : State) : Host.Outcome State Fault Refusal :=
  modeCommand .aes false (ctrStep (efAes s)) n s

/-- `DEC.CTR.DES n` (R231). -/
def execDecCtrDes (n : Nat) (s : State) : Host.Outcome State Fault Refusal :=
  modeCommand .des false (ctrStep (efDes s)) n s

/-- `DEC.CTR.TDES n` (R231). -/
def execDecCtrTdes (n : Nat) (s : State) : Host.Outcome State Fault Refusal :=
  modeCommand .tdes false (ctrStep (efTdes s)) n s

/-- `DEC.CTR.BF n` (R231). -/
def execDecCtrBf (n : Nat) (s : State) : Host.Outcome State Fault Refusal :=
  modeCommand .bf false (ctrStep (efBf s)) n s

end Sys2Proof.Machine
end

