-- ==== Sys2Proof/Machine/Dispatch.lean ====
section
/-! DEFINITION. `exec`: one arm per command, each one call of its meaning (30_encoding.md R80). It acts on the state in
which `CMD` already holds the command word (R71; log entry 11). -/

namespace Sys2Proof.Machine

def exec (i : Instr) (s : State) : Host.Outcome State Fault Refusal :=
  match i with
  | .keyexpAes kw => Sys2Proof.Machine.execKeyexpAes kw s
  | .keyexpDes kw => Sys2Proof.Machine.execKeyexpDes kw s
  | .keyexpTdes kw => Sys2Proof.Machine.execKeyexpTdes kw s
  | .keyexpBf kw => Sys2Proof.Machine.execKeyexpBf kw s
  | .invkeyAes => Sys2Proof.Machine.execInvkeyAes s
  | .encEcbAes n => Sys2Proof.Machine.execEncEcbAes n s
  | .encEcbDes n => Sys2Proof.Machine.execEncEcbDes n s
  | .encEcbTdes n => Sys2Proof.Machine.execEncEcbTdes n s
  | .encEcbBf n => Sys2Proof.Machine.execEncEcbBf n s
  | .decEcbAes n => Sys2Proof.Machine.execDecEcbAes n s
  | .decEcbDes n => Sys2Proof.Machine.execDecEcbDes n s
  | .decEcbTdes n => Sys2Proof.Machine.execDecEcbTdes n s
  | .decEcbBf n => Sys2Proof.Machine.execDecEcbBf n s
  | .encCbcAes n => Sys2Proof.Machine.execEncCbcAes n s
  | .encCbcDes n => Sys2Proof.Machine.execEncCbcDes n s
  | .encCbcTdes n => Sys2Proof.Machine.execEncCbcTdes n s
  | .encCbcBf n => Sys2Proof.Machine.execEncCbcBf n s
  | .decCbcAes n => Sys2Proof.Machine.execDecCbcAes n s
  | .decCbcDes n => Sys2Proof.Machine.execDecCbcDes n s
  | .decCbcTdes n => Sys2Proof.Machine.execDecCbcTdes n s
  | .decCbcBf n => Sys2Proof.Machine.execDecCbcBf n s
  | .encCfbAes n => Sys2Proof.Machine.execEncCfbAes n s
  | .encCfbDes n => Sys2Proof.Machine.execEncCfbDes n s
  | .encCfbTdes n => Sys2Proof.Machine.execEncCfbTdes n s
  | .encCfbBf n => Sys2Proof.Machine.execEncCfbBf n s
  | .decCfbAes n => Sys2Proof.Machine.execDecCfbAes n s
  | .decCfbDes n => Sys2Proof.Machine.execDecCfbDes n s
  | .decCfbTdes n => Sys2Proof.Machine.execDecCfbTdes n s
  | .decCfbBf n => Sys2Proof.Machine.execDecCfbBf n s
  | .encOfbAes n => Sys2Proof.Machine.execEncOfbAes n s
  | .encOfbDes n => Sys2Proof.Machine.execEncOfbDes n s
  | .encOfbTdes n => Sys2Proof.Machine.execEncOfbTdes n s
  | .encOfbBf n => Sys2Proof.Machine.execEncOfbBf n s
  | .decOfbAes n => Sys2Proof.Machine.execDecOfbAes n s
  | .decOfbDes n => Sys2Proof.Machine.execDecOfbDes n s
  | .decOfbTdes n => Sys2Proof.Machine.execDecOfbTdes n s
  | .decOfbBf n => Sys2Proof.Machine.execDecOfbBf n s
  | .encCtrAes n => Sys2Proof.Machine.execEncCtrAes n s
  | .encCtrDes n => Sys2Proof.Machine.execEncCtrDes n s
  | .encCtrTdes n => Sys2Proof.Machine.execEncCtrTdes n s
  | .encCtrBf n => Sys2Proof.Machine.execEncCtrBf n s
  | .decCtrAes n => Sys2Proof.Machine.execDecCtrAes n s
  | .decCtrDes n => Sys2Proof.Machine.execDecCtrDes n s
  | .decCtrTdes n => Sys2Proof.Machine.execDecCtrTdes n s
  | .decCtrBf n => Sys2Proof.Machine.execDecCtrBf n s

end Sys2Proof.Machine
end

