-- ==== Sys2Proof/Machine/HostPort.lean ====
section
/-! DEFINITION. The host's steps (00_scope.md R9): a write of `CMD` executes a command (30_encoding.md R71), any other
write, a read and a reset are those of Machine/Ops.lean. -/

namespace Sys2Proof.Machine

/-- Executing the command `v` (R71): `CMD <- v`, then the command the word encodes, or the error the decoder raises. -/
def executeCommand (v : Word) (s : State) : Host.Outcome State Fault Refusal :=
  let s' := { s with cmd := v, response := .written }
  match decode v with
  | .ok i => exec i s'
  | .error e => .next (s'.raise e)

/-- One step of the host (R9). -/
def hostStep (h : HostStep) (s : State) : Host.Outcome State Fault Refusal :=
  match h with
  | .reset => .next (resetEngine s)
  | .read a => .next (hostRead a s)
  | .write a v => if a = 0 then executeCommand v s else .next (hostWrite a v s)

/-- The engine with the host: the oldest pending host step is performed; with none pending the engine holds its state
and does nothing (R319). -/
def performNext (s : State) : Host.Outcome State Fault Refusal :=
  match s.requests with
  | [] => .next s
  | h :: rest => hostStep h { s with requests := rest }

/-- `s` with a write of the command word `w` as the host's next step. -/
def State.withCommand (s : State) (w : Word) : State := { s with requests := .write 0 w :: s.requests }

end Sys2Proof.Machine
end

