-- ==== Sys2Proof/Machine/Step.lean ====
section
/-! DEFINITION. `step`, one step of the machine, and `withFetchWord`, which places a command where `step` takes its
next one from. -/

namespace Sys2Proof.Machine

/-- One step: the oldest pending step of the host (00_scope.md R9). -/
def step (s : State) : Host.Outcome State Fault Refusal := performNext s

/-- `s` with the command word `w` of `nbits` bits as the next thing the host does: the engine fetches nothing (10_state.md
R29), a command comes from the host's write of `CMD` (20_memory.md R64; log entry 5). -/
def State.withFetchWord (s : State) (nbits w : Nat) : State := s.withCommand (BitVec.ofNat 32 (w % 2 ^ nbits))

end Sys2Proof.Machine
end

