-- ==== Sys2Proof/Safety.lean ====
section
/-! DEFINITION. The states the engine can be in, as the spec's invariants say (10_state.md R22, R23, R24, R28), and the
terms the claims are written in: when a command is accepted, the block functions by cipher, bits of a word as numbers. -/

namespace Sys2Proof.Machine

/-! ## Legal states -/

/-- The ten values of `KSTAG` (R24). -/
abbrev kstagValues : List Word :=
  [0x000, 0x128, 0x130, 0x138, 0x328, 0x330, 0x338, 0x141, 0x142, 0x143]

/-- `KSTAG` is one of its ten values (R24). -/
abbrev State.KstagLegal (s : State) : Prop := s.kstag ∈ kstagValues

/-- `STATUS` is a code 0 to 6: codes 7 to 15 are never produced and bits 31:4 are 0 (R22, R301). -/
abbrev State.StatusLegal (s : State) : Prop := s.status.toNat ≤ 6

/-- `CONFIG` holds a `DATA_WORDS` in range, its upper half 0 (R12, R28). -/
abbrev State.ConfigLegal (s : State) : Prop := 4 ≤ s.config.toNat ∧ s.config.toNat ≤ 65535

/-- The engine's registers are legal and `DATA` has its length. -/
structure State.Legal (s : State) : Prop where
  kstag : s.KstagLegal
  status : s.StatusLegal
  config : s.ConfigLegal
  data : Memory.wf s = true

/-- `KSI` holds the inverse schedule derived from the present content of `KSF` (R23, R109). -/
def State.KsiInverseOfKsf (s : State) : Prop :=
  ∀ j < 4 * (s.kstagNr + 1), s.ksiWord j = (aesInverseSchedule s.kstagNr s.ksfWord).getD j 0

/-- `INV = 1` only when `KSI` holds that schedule (R23). -/
def State.InvTagSound (s : State) : Prop := s.kstagInv = true → s.KsiInverseOfKsf

/-! ## Accepted commands -/

/-- The forward schedule of cipher `c` is in place (R220). -/
abbrev State.Ready (s : State) (c : Cipher) : Prop := s.kstagFwd = true ∧ s.kstagCipher = c.code

/-- A mode command for cipher `c` over `n` words passes the checks of R220; `needInv` says that it needs the AES
inverse schedule. -/
abbrev State.Accepts (s : State) (c : Cipher) (needInv : Bool) (n : Nat) : Prop :=
  s.Ready c ∧ (needInv = true → s.kstagInv = true) ∧ n % blockWords c = 0 ∧ n ≤ s.dataWords

/-- `need_inv` of R220 for `DEC` in mode `m` with cipher `c`: AES in ECB or CBC. No `ENC` command needs it. -/
abbrev decNeedsInverse (m : Mode) (c : Cipher) : Bool := c == .aes && (m == .ecb || m == .cbc)

/-- The key sizes, in words, each cipher supports (R10, R101, R140, R175, R190). -/
abbrev keySizes (c : Cipher) : List Nat :=
  match c with
  | .aes => [4, 6, 8]
  | .des => [2]
  | .tdes => [6]
  | .bf => [1, 2, 3, 4, 5, 6, 7, 8, 9, 10, 11, 12, 13, 14]

/-- How many words of `KSF` a schedule occupies (R31 to R34). -/
def scheduleWords (c : Cipher) (nr : Nat) : Nat :=
  match c with
  | .aes => 4 * (nr + 1)
  | .des => 128
  | .tdes => 384
  | .bf => 1042

/-- The command word `v` is refused on state `s` with `STATUS = code`: `CMD` and `STATUS` are written, nothing else
changes (R303). -/
abbrev State.RefusesWord (s : State) (v code : Word) : Prop :=
  executeCommand v s = .next { s with cmd := v, status := code, response := .written }

/-! ## Block functions by cipher -/

/-- `Ef` of the table of R221. -/
def State.ef (s : State) (c : Cipher) : Block (blockWords c) → Block (blockWords c) :=
  match c with
  | .aes => efAes s
  | .des => efDes s
  | .tdes => efTdes s
  | .bf => efBf s

/-- `Ei` of the table of R221. -/
def State.ei (s : State) (c : Cipher) : Block (blockWords c) → Block (blockWords c) :=
  match c with
  | .aes => eiAes s
  | .des => eiDes s
  | .tdes => eiTdes s
  | .bf => eiBf s

/-- The block before block `k` of a sequence whose block before the first is `first`: `x_{k-1}` of R233. -/
def blockBefore {B : Nat} (first : Block B) (blocks : Nat → Block B) (k : Nat) : Block B :=
  if k = 0 then first else blocks (k - 1)

/-- `V[0..B-2] ++ (V[B-1] +32 k)` of R233. -/
def counterPlus {B : Nat} (v : Block B) (k : Nat) : Block B :=
  Vector.ofFn fun i => if i.val + 1 = B then v[i] + BitVec.ofNat 32 k else v[i]

/-- `f` applied `k` times. -/
def applyTimes {B : Nat} (f : Block B → Block B) : Nat → Block B → Block B
  | 0, x => x
  | k + 1, x => f (applyTimes f k x)

/-- What a successful mode command with cipher `c` over `n` words leaves unchanged (R232): every element but `DATA`,
`CHAIN` and `STATUS`, which is 0; the length of `DATA` and its words from `n` on; `CHAIN` beyond the block. -/
structure ModeFrame (c : Cipher) (n : Nat) (s t : State) : Prop where
  others : t = { s with data := t.data, chain := t.chain, status := 0 }
  length : t.data.length = s.data.length
  rest : ∀ i, n ≤ i → t.dataWord i = s.dataWord i
  chainRest : ∀ i, blockWords c ≤ i → t.chainWord i = s.chainWord i

/-! ## The bus -/

/-- Addresses the map of R51 does not list. -/
abbrev State.Unmapped (s : State) (a : Word) : Prop :=
  (0x3 < a.toNat ∧ a.toNat < 0x10) ∨ (0x1D < a.toNat ∧ a.toNat < 0x20) ∨ (0x23 < a.toNat ∧ a.toNat < 0x400) ∨
    (0x811 < a.toNat ∧ a.toNat < 0xC00) ∨ (0xC3B < a.toNat ∧ a.toNat < 0x10000) ∨ 0x10000 + s.dataWords ≤ a.toNat

/-- Addresses of `STATUS`, `KSTAG`, `CONFIG`, `KSF` and `KSI`, which the host may read and not write (R51). -/
abbrev ReadOnlyAddress (a : Word) : Prop :=
  (0x1 ≤ a.toNat ∧ a.toNat ≤ 0x3) ∨ (0x400 ≤ a.toNat ∧ a.toNat ≤ 0x811) ∨ (0xC00 ≤ a.toNat ∧ a.toNat ≤ 0xC3B)

/-! ## Bits as numbers -/

/-- The bits `lo + width - 1 .. lo` of a word as a number. -/
abbrev bitsOf (v : Word) (lo width : Nat) : Nat := v.toNat / 2 ^ lo % 2 ^ width

/-- `KEYWORDS = kw` is a supported key size of the cipher with code `c` (R301, code 1). -/
abbrev KeySizeSupported (c kw : Nat) : Prop :=
  (c = 0 ∧ (kw = 4 ∨ kw = 6 ∨ kw = 8)) ∨ (c = 1 ∧ kw = 2) ∨ (c = 2 ∧ kw = 6) ∨ (c = 3 ∧ 1 ≤ kw ∧ kw ≤ 14)

/-- The code of the error the command word `v` ends in on state `s`, 0 for success: the seven checks of R305 in their
order, written over the fields of R72 and R23 as numbers. -/
def firstError (v : Word) (s : State) : Nat :=
  let op := bitsOf v 0 2
  let c := bitsOf v 2 2
  let m := bitsOf v 4 3
  let kw := bitsOf v 8 4
  let n := bitsOf v 16 16
  let fwd := bitsOf s.kstag 8 1
  let inv := bitsOf s.kstag 9 1
  if bitsOf v 7 1 ≠ 0 ∨ bitsOf v 12 4 ≠ 0 then 6
  else if (op = 0 ∧ (m ≠ 0 ∨ n ≠ 0)) ∨ (op = 1 ∧ (m ≠ 0 ∨ n ≠ 0 ∨ kw ≠ 0 ∨ c ≠ 0)) ∨ (2 ≤ op ∧ kw ≠ 0) then 6
  else if 2 ≤ op ∧ 4 < m then 2
  else if op = 0 ∧ ¬ KeySizeSupported c kw then 1
  else if 1 ≤ op ∧ (fwd ≠ 1 ∨ bitsOf s.kstag 0 2 ≠ c) then 5
  else if op = 3 ∧ c = 0 ∧ m ≤ 1 ∧ inv ≠ 1 then 5
  else if 2 ≤ op ∧ n % (if c = 0 then 4 else 2) ≠ 0 then 3
  else if 2 ≤ op ∧ bitsOf s.config 0 16 < n then 4
  else 0

/-- DES bit `j` (1..64) of a two-word quantity (R270): bit 1 is the most significant bit of the first word. -/
abbrev desBit (w0 w1 : Word) (j : Nat) : Bool := (if j ≤ 32 then w0 else w1).getLsbD (31 - (j - 1) % 32)

/-- Group `i` of the DES expansion of a right half, from the table `E` of R278. -/
def desExpandedGroup (r : Word) (i : Nat) : BitVec 6 :=
  (List.range 6).foldl
    (fun v j => v <<< 1 ||| (BitVec.ofBool (r.getLsbD (32 - desExpansion.getD (6 * i + j) 0))).setWidth 6) 0

/-- DES bit `q` (1..32) of the eight S-box outputs `S(E(R) ^ K)` (R161, R276): `Sbox(0, .)` in bits 1 to 4. -/
def desSboxBit (r : Word) (sel : Nat → BitVec 6) (q : Nat) : Bool :=
  let i := (q - 1) / 4
  (desSbox i (desExpandedGroup r i ^^^ sel i)).getLsbD (3 - (q - 1) % 4)

/-- `TOT[r] = SHIFTS[0] + ... + SHIFTS[r]` (R142). -/
def desTotalShift (r : Nat) : Nat := (desShifts.take (r + 1)).sum

/-- `kb[p]` of round `r` in the closed form of R143, p = 0..47. -/
def desSubkeyBit (k0 k1 : Word) (r p : Nat) : Bool :=
  let q := pc2.getD p 0
  if p < 24 then desBit k0 k1 (pc1.getD ((q - 1 + desTotalShift r) % 28) 0)
  else desBit k0 k1 (pc1.getD (28 + (q - 29 + desTotalShift r) % 28) 0)

end Sys2Proof.Machine
end

