-- ==== Sys2Proof/Certificates/Slice0/Obligations.lean ====
section
/-! DEFINITION. The statements about the model for the provers, one definition each; OBLIGATIONS.json says of each which
rules of the spec it states. -/

open Sys2Proof Sys2Proof.Machine

/-- Decoding the word of any well-formed command gives the command back. Rules R71, R72, R76, R77, R82. -/
def Obligations.DecodeOfEncode : Prop :=
  ∀ i : Instr, i.WellFormed → decode (encode i) = .ok i

/-- A word that decodes is the word of the command it decodes to, and that command is well-formed. Rules R71, R76,
R79. -/
def Obligations.EncodeOfDecode : Prop :=
  ∀ (v : Word) (i : Instr), decode v = .ok i → i.WellFormed ∧ encode i = v

/-- The command word is OP | CIPHER << 2 | MODE << 4 | KEYWORDS << 8 | NWORDS << 16 in each of the three formats.
Rules R76. -/
def Obligations.EncodingFields : Prop :=
  (∀ (c : Cipher) (kw : Nat), kw < 16 → (encode (keyexpOf c kw)).toNat = 4 * c.code.toNat + 256 * kw) ∧
  (encode .invkeyAes).toNat = 1 ∧
  (∀ (m : Mode) (c : Cipher) (n : Nat), n < 65536 →
    (encode (encOf m c n)).toNat = 2 + 4 * c.code.toNat + 16 * m.code.toNat + 65536 * n ∧
    (encode (decOf m c n)).toNat = 3 + 4 * c.code.toNat + 16 * m.code.toNat + 65536 * n) ∧
  encode (.keyexpAes 4) = 0x00000400 ∧ encode (.keyexpBf 14) = 0x00000E0C ∧ encode .invkeyAes = 0x00000001 ∧
  encode (.encEcbAes 4) = 0x00040002 ∧ encode (.decCbcAes 8) = 0x00080013 ∧ encode (.encCtrBf 6) = 0x0006004E ∧
  encode (.decOfbTdes 2) = 0x0002003B

/-- A word that matches a row of the opcode map decodes to that row's command with the operand field as operand, and
only such words decode. Rules R80. -/
def Obligations.OpcodeMapRows : Prop :=
  ∀ v : Word,
  (∀ c : Cipher, v &&& 0xFFFFF0FF = c.code.setWidth 32 <<< 2 → decode v = .ok (keyexpOf c (bitsOf v 8 4))) ∧
  (v &&& 0xFFFFFFFF = 0x00000001 → decode v = .ok .invkeyAes) ∧
  (∀ (m : Mode) (c : Cipher), v &&& 0x0000FFFF = 0x02 ||| c.code.setWidth 32 <<< 2 ||| m.code.setWidth 32 <<< 4 →
    decode v = .ok (encOf m c (bitsOf v 16 16))) ∧
  (∀ (m : Mode) (c : Cipher), v &&& 0x0000FFFF = 0x03 ||| c.code.setWidth 32 <<< 2 ||| m.code.setWidth 32 <<< 4 →
    decode v = .ok (decOf m c (bitsOf v 16 16))) ∧
  (∀ i : Instr, decode v = .ok i → v &&& rowMask i = rowMatch i)

/-- Every word outside the opcode map ends in IllegalCommand or UnsupportedMode, as its fields say, and changes
nothing but CMD and STATUS. Rules R78. -/
def Obligations.UndefinedWordsAreRefused : Prop :=
  ∀ (v : Word) (s : State),
  (bitsOf v 7 1 ≠ 0 ∨ bitsOf v 12 4 ≠ 0 → s.RefusesWord v 6) ∧
  (bitsOf v 0 2 = 0 → bitsOf v 4 3 ≠ 0 ∨ bitsOf v 16 16 ≠ 0 → s.RefusesWord v 6) ∧
  (bitsOf v 0 2 = 1 → bitsOf v 4 3 ≠ 0 ∨ bitsOf v 16 16 ≠ 0 ∨ bitsOf v 8 4 ≠ 0 → s.RefusesWord v 6) ∧
  (bitsOf v 0 2 = 1 → bitsOf v 2 2 ≠ 0 → s.RefusesWord v 6) ∧
  (2 ≤ bitsOf v 0 2 → bitsOf v 8 4 ≠ 0 → s.RefusesWord v 6) ∧
  (2 ≤ bitsOf v 0 2 → 5 ≤ bitsOf v 4 3 → bitsOf v 7 1 = 0 → bitsOf v 12 4 = 0 → bitsOf v 8 4 = 0 → s.RefusesWord v 2) ∧
  ((∀ i : Instr, v &&& rowMask i ≠ rowMatch i) → s.RefusesWord v 6 ∨ s.RefusesWord v 2)

/-- Words written out from the formats decode to the commands they stand for. Rules R76, R80. -/
def Obligations.SampleWordsDecode : Prop :=
  decode 0x00000400 = .ok (.keyexpAes 4) ∧ decode 0x00000204 = .ok (.keyexpDes 2) ∧
  decode 0x00000608 = .ok (.keyexpTdes 6) ∧ decode 0x00000E0C = .ok (.keyexpBf 14) ∧ decode 0x00000001 = .ok .invkeyAes ∧
  decode 0x00040002 = .ok (.encEcbAes 4) ∧ decode 0x00020007 = .ok (.decEcbDes 2) ∧
  decode 0x0004001A = .ok (.encCbcTdes 4) ∧ decode 0x00080013 = .ok (.decCbcAes 8) ∧
  decode 0x0002002E = .ok (.encCfbBf 2) ∧ decode 0x00040023 = .ok (.decCfbAes 4) ∧
  decode 0x00040032 = .ok (.encOfbAes 4) ∧ decode 0x0002003B = .ok (.decOfbTdes 2) ∧
  decode 0x0006004E = .ok (.encCtrBf 6) ∧ decode 0xFFFF0047 = .ok (.decCtrDes 65535)

/-- A step whose pending host write of CMD decodes to i is exec of i on the state in which CMD holds the word. Rules
R21, R54, R71. -/
def Obligations.StepRunsDecodedCommand : Prop :=
  ∀ (s : State) (v : Word) (i : Instr) (rest : List HostStep), s.requests = .write 0 v :: rest → decode v = .ok i →
    step s = exec i { s with requests := rest, cmd := v, response := .written }

/-- A host read returns the word its address names and changes no state; an unmapped address is a bus error. Rules
R53. -/
def Obligations.HostReadStep : Prop :=
  ∀ (s : State) (a : Word) (rest : List HostStep), s.requests = .read a :: rest →
  ∃ r : HostResponse, step s = .next { s with requests := rest, response := r } ∧
    (a.toNat = 0x0 → r = .word s.cmd) ∧ (a.toNat = 0x1 → r = .word s.status) ∧
    (a.toNat = 0x2 → r = .word s.kstag) ∧ (a.toNat = 0x3 → r = .word s.config) ∧
    (∀ i < 14, a.toNat = 0x10 + i → r = .word (s.keyWord i)) ∧
    (∀ i < 4, a.toNat = 0x20 + i → r = .word (s.chainWord i)) ∧
    (∀ i < 1042, a.toNat = 0x400 + i → r = .word (s.ksfWord i)) ∧
    (∀ i < 60, a.toNat = 0xC00 + i → r = .word (s.ksiWord i)) ∧
    (∀ i < s.dataWords, a.toNat = 0x10000 + i → r = .word (s.dataWord i)) ∧
    (s.Unmapped a → r = .busError)

/-- A host write sets the KEY, CHAIN or DATA word it names and nothing else; to CMD it executes a command; elsewhere
it is a bus error. Rules R54. -/
def Obligations.HostWriteStep : Prop :=
  ∀ (s : State) (a v : Word) (rest : List HostStep), s.requests = .write a v :: rest →
  (∀ (i : Nat) (h : i < 14), a.toNat = 0x10 + i →
    step s = .next { s with requests := rest, key := s.key.set i v h, response := .written }) ∧
  (∀ (i : Nat) (h : i < 4), a.toNat = 0x20 + i →
    step s = .next { s with requests := rest, chain := s.chain.set i v h, response := .written }) ∧
  (∀ i < s.dataWords, a.toNat = 0x10000 + i →
    step s = .next { s with requests := rest, data := s.data.set i v, response := .written }) ∧
  (a.toNat = 0x0 → step s = executeCommand v { s with requests := rest }) ∧
  (ReadOnlyAddress a ∨ s.Unmapped a → step s = .next { s with requests := rest, response := .busError })

/-- A step that ends in a bus error changes no element of state. Rules R55. -/
def Obligations.BusErrorChangesNothing : Prop :=
  ∀ (s t : State) (h : HostStep) (rest : List HostStep), s.requests = h :: rest → step s = .next t →
    t.response = .busError → t = { s with requests := rest, response := .busError }

/-- Reset, in every state, clears CMD, STATUS, KSTAG, KEY and CHAIN and keeps CONFIG; power-on is a reset. Rules R330.
-/
def Obligations.ResetStep : Prop :=
  let cleared := fun t : State => t.cmd = 0 ∧ t.status = 0 ∧ t.kstag = 0 ∧ (∀ i < 14, t.keyWord i = 0) ∧
    ∀ i < 4, t.chainWord i = 0
  cleared State.reset ∧
  ∀ (s : State) (rest : List HostStep), s.requests = .reset :: rest →
    ∃ t, step s = .next t ∧ cleared t ∧ t.config = s.config ∧ t.data.length = s.dataWords ∧ t.requests = rest

/-- After a reset the host reads 0 from CMD, STATUS, KSTAG, KEY, CHAIN and DATA_WORDS from CONFIG; every ENC, DEC and
INVKEY.AES ends in ScheduleNotReady. Rules R332. -/
def Obligations.AfterResetAsHostSees : Prop :=
  ∀ t : State, (t = State.reset ∨ ∃ s : State, s.ConfigLegal ∧ t = resetEngine s) →
  t.busWord 0 = some 0 ∧ t.busWord 1 = some 0 ∧ t.busWord 2 = some 0 ∧
  t.busWord 3 = some (BitVec.ofNat 32 t.dataWords) ∧
  (∀ i < 14, t.busWord (BitVec.ofNat 32 (0x10 + i)) = some 0) ∧
  (∀ i < 4, t.busWord (BitVec.ofNat 32 (0x20 + i)) = some 0) ∧
  (∀ (m : Mode) (c : Cipher) (n : Nat), exec (encOf m c n) t = .next { t with status := 5 } ∧
    exec (decOf m c n) t = .next { t with status := 5 }) ∧
  exec .invkeyAes t = .next { t with status := 5 }

/-- A host read after a host write returns the word written at that address and the old word at every other address.
Rules R53, R54, R61. -/
def Obligations.ReadAfterWrite : Prop :=
  ∀ (s : State) (a b v : Word) (rest : List HostStep), Memory.wf s = true →
  s.requests = .write a v :: .read b :: rest → a ≠ 0 → ¬ ReadOnlyAddress a → ¬ s.Unmapped a →
  ∃ t u, step s = .next t ∧ step t = .next u ∧ u.requests = rest ∧
    u.response = if b = a then .word v else match s.busWord b with
      | some w => .word w
      | none => .busError

/-- With no host step pending, a step changes nothing. Rules R319. -/
def Obligations.IdleStepHolds : Prop :=
  ∀ s : State, s.requests = [] → step s = .next s

/-- The power-on state is legal: KSTAG, STATUS, CONFIG and the length of DATA as the invariants say, and CONFIG holds
DATA_WORDS. Rules R12, R24, R27, R28, R40. -/
def Obligations.PowerOnStateIsLegal : Prop :=
  State.reset.Legal ∧ State.reset.InvTagSound ∧ State.reset.config.toNat = Config.dataWords ∧
  4 ≤ Config.dataWords ∧ Config.dataWords ≤ 65535 ∧ State.reset.data.length = Config.dataWords

/-- KSTAG is one of its ten values after reset and after every step, and those values are the combinations of CIPHER,
NR, FWD and INV the spec allows. Rules R24. -/
def Obligations.KstagInvariant : Prop :=
  State.reset.KstagLegal ∧
  (∀ s t : State, s.KstagLegal → step s = .next t → t.KstagLegal) ∧
  ∀ s : State, s.KstagLegal ↔
    (bitsOf s.kstag 7 1 = 0 ∧ bitsOf s.kstag 10 22 = 0) ∧
    (s.kstag = 0 ∨ (bitsOf s.kstag 8 1 = 1 ∧
      ((bitsOf s.kstag 0 2 = 0 ∧ (bitsOf s.kstag 2 5 = 10 ∨ bitsOf s.kstag 2 5 = 12 ∨ bitsOf s.kstag 2 5 = 14)) ∨
        (bitsOf s.kstag 0 2 ≠ 0 ∧ bitsOf s.kstag 2 5 = 16)))) ∧
    (bitsOf s.kstag 9 1 = 1 → bitsOf s.kstag 0 2 = 0 ∧ bitsOf s.kstag 8 1 = 1)

/-- Every step from a legal state gives a legal state. Rules R22, R24, R27, R28. -/
def Obligations.LegalStatesStayLegal : Prop :=
  ∀ s t : State, s.Legal → step s = .next t → t.Legal

/-- KSTAG.INV = 1 only while KSI holds the inverse schedule derived from the present content of KSF, kept by every
step. Rules R23, R109, R110, R342. -/
def Obligations.InverseTagStaysSound : Prop :=
  ∀ s t : State, s.KstagLegal → s.InvTagSound → step s = .next t → t.InvTagSound

/-- Each element of state changes only by the host accesses and commands the state table names. Rules R20, R21, R22,
R23, R25, R26, R27, R28, R30, R35. -/
def Obligations.WritersOfState : Prop :=
  ∀ (s t : State) (h : HostStep) (rest : List HostStep), s.requests = h :: rest → step s = .next t →
  let runs := fun i : Instr => ∃ v, h = .write 0 v ∧ decode v = .ok i
  t.config = s.config ∧ t.requests = rest ∧
  (t.cmd ≠ s.cmd → h = .reset ∨ ∃ v, h = .write 0 v) ∧
  (t.status ≠ s.status → h = .reset ∨ ∃ v, h = .write 0 v) ∧
  (t.kstag ≠ s.kstag → h = .reset ∨ runs .invkeyAes ∨ ∃ c kw, runs (keyexpOf c kw)) ∧
  (t.ksf ≠ s.ksf → h = .reset ∨ ∃ c kw, runs (keyexpOf c kw)) ∧
  (t.ksi ≠ s.ksi → h = .reset ∨ runs .invkeyAes) ∧
  (t.key ≠ s.key → h = .reset ∨ ∃ a v, h = .write a v ∧ 0x10 ≤ a.toNat ∧ a.toNat ≤ 0x1D) ∧
  (t.chain ≠ s.chain → h = .reset ∨ (∃ a v, h = .write a v ∧ 0x20 ≤ a.toNat ∧ a.toNat ≤ 0x23) ∨
    ∃ m c n, m ≠ .ecb ∧ (runs (encOf m c n) ∨ runs (decOf m c n))) ∧
  (t.data ≠ s.data → h = .reset ∨ (∃ a v, h = .write a v ∧ 0x10000 ≤ a.toNat) ∨
    ∃ m c n, runs (encOf m c n) ∨ runs (decOf m c n))

/-- No mode command, accepted or refused, changes KSF, KSI, KSTAG, KEY, CMD or CONFIG, or a DATA word from NWORDS on;
ECB leaves CHAIN alone. Rules R221, R232, R303. -/
def Obligations.ModeCommandsKeepSchedulesAndKey : Prop :=
  ∀ (m : Mode) (c : Cipher) (n : Nat) (s t : State),
  (exec (encOf m c n) s = .next t ∨ exec (decOf m c n) s = .next t) →
    t = { s with data := t.data, chain := t.chain, status := t.status } ∧
    (∀ i, n ≤ i → t.dataWord i = s.dataWord i) ∧ (m = .ecb → t.chain = s.chain)

/-- Every command in every state ends in a next state; so does every step of the host, by the model's choice (log
entries 2, 4 and 18). Rules R9, R55, R71, R300, R319, R341. -/
def Obligations.EveryStepAnswersNext : Prop :=
  ∀ s : State, (∃ t, step s = .next t) ∧ ∀ i : Instr, ∃ t, exec i s = .next t

/-- Executing any word ends with STATUS = the code of the first failing check in the order of the spec, 0 when none
fails. Rules R305. -/
def Obligations.ErrorPriority : Prop :=
  ∀ (v : Word) (s : State), ∃ t, executeCommand v s = .next t ∧ t.status.toNat = firstError v s

/-- A command that ends in an error changes nothing but CMD and STATUS, and STATUS bits 31:4 stay 0. Rules R303. -/
def Obligations.RefusedCommandChangesOnlyStatus : Prop :=
  ∀ (v : Word) (s t : State), executeCommand v s = .next t → t.status ≠ 0 →
    t = { s with cmd := v, status := t.status, response := .written } ∧ t.status.toNat ≤ 6

/-- The effect of a command depends neither on STATUS or CMD from before it nor on a refused command before it. Rules
R302, R304, R306. -/
def Obligations.ErrorsAreNotSticky : Prop :=
  (∀ (v old oldCmd : Word) (s : State),
    executeCommand v { s with status := old, cmd := oldCmd } = executeCommand v s) ∧
  ∀ (v w : Word) (s t : State), executeCommand v s = .next t → t.status ≠ 0 → executeCommand w t = executeCommand w s

/-- KEYEXP.AES with 4, 6 or 8 key words writes the Rijndael key expansion to KSF, tags it in KSTAG and changes nothing
else. Rules R103, R104. -/
def Obligations.KeyexpAesExpandsKey : Prop :=
  ∀ (s : State) (kw : Nat), kw = 4 ∨ kw = 6 ∨ kw = 8 →
  ∃ t, exec (.keyexpAes kw) s = .next t ∧
    (∀ i < kw, t.ksfWord i = s.keyWord i) ∧
    (∀ i, kw ≤ i → i < 4 * (kw + 7) →
      t.ksfWord i = t.ksfWord (i - kw) ^^^
        (if i % kw = 0 then subWord (rotWord (t.ksfWord (i - 1))) ^^^ rconWord (i / kw)
          else if kw = 8 ∧ i % kw = 4 then subWord (t.ksfWord (i - 1))
          else t.ksfWord (i - 1))) ∧
    (∀ i, 4 * (kw + 7) ≤ i → t.ksfWord i = s.ksfWord i) ∧
    t = { s with ksf := t.ksf, kstag := if kw = 4 then 0x128 else if kw = 6 then 0x130 else 0x138, status := 0 }

/-- A KEYEXP with a key size its cipher does not support ends in InvalidKeySize and changes nothing but STATUS. Rules
R101. -/
def Obligations.UnsupportedKeySizeIsRefused : Prop :=
  (∀ (s : State) (kw : Nat), kw ≠ 4 → kw ≠ 6 → kw ≠ 8 → exec (.keyexpAes kw) s = .next { s with status := 1 }) ∧
  (∀ (c : Cipher) (s : State) (kw : Nat), kw ∉ keySizes c → exec (keyexpOf c kw) s = .next { s with status := 1 }) ∧
  ∀ (c : Cipher) (kw : Nat), kw < 16 → decode (BitVec.ofNat 32 (4 * c.code.toNat + 256 * kw)) = .ok (keyexpOf c kw)

/-- INVKEY.AES writes the inverse schedule to KSI and sets INV; without an AES schedule it ends in ScheduleNotReady.
Rules R109, R110. -/
def Obligations.InvkeyAesWritesInverseSchedule : Prop :=
  (∀ s : State, s.KstagLegal → s.Ready .aes →
    ∃ t, exec .invkeyAes s = .next t ∧
      (∀ q ≤ s.kstagNr, ∀ w < 4,
        t.ksiWord (4 * q + w) =
          let source := s.ksfWord (4 * (s.kstagNr - q) + (4 - w) % 4)
          if q = 0 ∨ q = s.kstagNr then source else invMixWord source) ∧
      (∀ j, 4 * (s.kstagNr + 1) ≤ j → t.ksiWord j = s.ksiWord j) ∧
      t = { s with ksi := t.ksi, kstag := s.kstag ||| 0x200, status := 0 } ∧
      (t.kstag = 0x328 ∨ t.kstag = 0x330 ∨ t.kstag = 0x338)) ∧
  ∀ s : State, ¬ s.Ready .aes → exec .invkeyAes s = .next { s with status := 5 }

/-- InvMixWord, four S-box-then-table lookups, is InvMixColumns of the word's four bytes. Rules R108. -/
def Obligations.InvMixWordIsInvMixColumns : Prop :=
  ∀ t : Word,
  let b := fun k => byteOf k t
  invMixWord t = invSubMix 0 (sbox (b 0)) ^^^ invSubMix 1 (sbox (b 1)) ^^^ invSubMix 2 (sbox (b 2)) ^^^ invSubMix 3 (sbox (b 3)) ∧
  byteOf 0 (invMixWord t) = gmul (b 0) 14 ^^^ gmul (b 1) 11 ^^^ gmul (b 2) 13 ^^^ gmul (b 3) 9 ∧
  byteOf 1 (invMixWord t) = gmul (b 0) 9 ^^^ gmul (b 1) 14 ^^^ gmul (b 2) 11 ^^^ gmul (b 3) 13 ∧
  byteOf 2 (invMixWord t) = gmul (b 0) 13 ^^^ gmul (b 1) 9 ^^^ gmul (b 2) 14 ^^^ gmul (b 3) 11 ∧
  byteOf 3 (invMixWord t) = gmul (b 0) 11 ^^^ gmul (b 1) 13 ^^^ gmul (b 2) 9 ^^^ gmul (b 3) 14

/-- KEYEXP.DES 2 writes the 128 selectors to KSF, each bit the key bit the closed form names, tags them and changes
nothing else. Rules R143, R144. -/
def Obligations.KeyexpDesWritesSelectors : Prop :=
  ∀ s : State,
  ∃ t, exec (.keyexpDes 2) s = .next t ∧
    (∀ r < 16, ∀ i < 8, (t.ksfWord (8 * r + i)).toNat < 64 ∧
      ∀ j < 6, (t.ksfWord (8 * r + i)).getLsbD (5 - j) = desSubkeyBit (s.keyWord 0) (s.keyWord 1) r (6 * i + j)) ∧
    (∀ j, 128 ≤ j → t.ksfWord j = s.ksfWord j) ∧
    t = { s with ksf := t.ksf, kstag := 0x141, status := 0 }

/-- Keys that differ only in the parity bits give the same DES schedule. Rules R141, R147. -/
def Obligations.DesParityBitsAreIgnored : Prop :=
  ∀ (s : State) (key : Vector Word 14),
  (∀ i < 2, key.toList.getD i 0 &&& 0xFEFEFEFE = s.keyWord i &&& 0xFEFEFEFE) →
  ∃ t, exec (.keyexpDes 2) s = .next t ∧ exec (.keyexpDes 2) { s with key := key } = .next { t with key := key }

/-- KEYEXP.TDES 6 writes the three DES schedules of its three keys to KSF, tags them and changes nothing else. Rules
R176, R177. -/
def Obligations.KeyexpTdesWritesThreeSchedules : Prop :=
  ∀ s : State,
  ∃ t, exec (.keyexpTdes 6) s = .next t ∧
    (∀ k < 3, ∀ r < 16, ∀ i < 8,
      t.ksfWord (128 * k + 8 * r + i) = (desSchedule (s.keyWord (2 * k)) (s.keyWord (2 * k + 1))).getD (8 * r + i) 0) ∧
    (∀ j, 384 ≤ j → t.ksfWord j = s.ksfWord j) ∧
    t = { s with ksf := t.ksf, kstag := 0x142, status := 0 }

/-- KEYEXP.BF writes to KSF the tables after 521 block encryptions, each run on the tables as the one before left
them. Rules R191, R192, R193. -/
def Obligations.KeyexpBfBootstrapsTables : Prop :=
  ∀ (s : State) (kw : Nat), 1 ≤ kw → kw ≤ 14 →
  ∃ (t : State) (tab : Nat → Nat → Word) (d : Nat → Block 2), exec (.keyexpBf kw) s = .next t ∧
    (∀ i < 18, tab 0 i = bfP0 i ^^^ s.keyWord (i % kw)) ∧
    (∀ b < 4, ∀ j < 256, tab 0 (18 + 256 * b + j) = bfS0 b j) ∧
    d 0 = #v[0, 0] ∧
    (∀ k < 521,
      d (k + 1) = bfEnc (tab k) (fun b j => tab k (18 + 256 * b + j)) (d k) ∧
      ∀ i < 1042, tab (k + 1) i = if i = 2 * k then (d (k + 1))[0] else if i = 2 * k + 1 then (d (k + 1))[1] else tab k i) ∧
    (∀ i < 1042, t.ksfWord i = tab 521 i) ∧
    t = { s with ksf := t.ksf, kstag := 0x143, status := 0 }

/-- A KEYEXP reads KEY[0..kw-1] and no other key word. Rules R25, R105, R147, R195. -/
def Obligations.KeyWordsBeyondKeySizeAreIgnored : Prop :=
  ∀ (c : Cipher) (kw : Nat) (s t : State) (key : Vector Word 14),
  (∀ i < kw, key.toList.getD i 0 = s.keyWord i) → exec (keyexpOf c kw) s = .next t →
    exec (keyexpOf c kw) { s with key := key } = .next { t with key := key }

/-- The Blowfish schedule is a function of the cyclic key: equal cyclic key sequences give equal schedules, whatever
the key sizes. Rules R194. -/
def Obligations.BfScheduleDependsOnCyclicKey : Prop :=
  ∀ (s : State) (key : Vector Word 14) (kw kw' : Nat), 1 ≤ kw → kw ≤ 14 → 1 ≤ kw' → kw' ≤ 14 →
  (∀ i < 18, key.toList.getD (i % kw') 0 = s.keyWord (i % kw)) →
  ∃ t, exec (.keyexpBf kw) s = .next t ∧ exec (.keyexpBf kw') { s with key := key } = .next { t with key := key }

/-- After every successful KEYEXP, DEC.ECB.AES and DEC.CBC.AES end in ScheduleNotReady. Rules R23, R220, R342. -/
def Obligations.StaleInverseScheduleIsRefused : Prop :=
  ∀ (c : Cipher) (kw : Nat) (s : State), kw ∈ keySizes c →
  ∃ t, exec (keyexpOf c kw) s = .next t ∧ t.status = 0 ∧ t.kstagInv = false ∧
    ∀ n, exec (.decEcbAes n) t = .next { t with status := 5 } ∧ exec (.decCbcAes n) t = .next { t with status := 5 }

/-- Ef_AES is SubBytes, ShiftRows, MixColumns and AddRoundKey of FIPS-197, round by round, the last round without
MixColumns. Rules R123. -/
def Obligations.AesForwardIsPublishedCipher : Prop :=
  ∀ (s : State) (b : Block 4), s.KstagLegal → s.Ready .aes →
  ∃ st : Nat → Block 4,
    (∀ c : Fin 4, (st 0)[c] = b[c] ^^^ s.ksfWord c.val) ∧
    (∀ j, 1 ≤ j → j < s.kstagNr → ∀ c : Fin 4,
      let a := fun r : Fin 4 => sbox (byteOf r.val (st (j - 1))[c + r])
      let k := fun r => byteOf r (s.ksfWord (4 * j + c.val))
      byteOf 0 (st j)[c] = gmul (a 0) 2 ^^^ gmul (a 1) 3 ^^^ a 2 ^^^ a 3 ^^^ k 0 ∧
      byteOf 1 (st j)[c] = a 0 ^^^ gmul (a 1) 2 ^^^ gmul (a 2) 3 ^^^ a 3 ^^^ k 1 ∧
      byteOf 2 (st j)[c] = a 0 ^^^ a 1 ^^^ gmul (a 2) 2 ^^^ gmul (a 3) 3 ^^^ k 2 ∧
      byteOf 3 (st j)[c] = gmul (a 0) 3 ^^^ a 1 ^^^ a 2 ^^^ gmul (a 3) 2 ^^^ k 3) ∧
    ∀ c r : Fin 4, byteOf r.val (efAes s b)[c] =
      sbox (byteOf r.val (st (s.kstagNr - 1))[c + r]) ^^^ byteOf r.val (s.ksfWord (4 * s.kstagNr + c.val))

/-- Ei_AES inverts Ef_AES, both ways, whenever KSI holds the inverse schedule of the present KSF. Rules R128. -/
def Obligations.AesRoundTrip : Prop :=
  (∀ (s : State) (b : Block 4), s.KstagLegal → s.Ready .aes → s.KsiInverseOfKsf →
    eiAes s (efAes s b) = b ∧ efAes s (eiAes s b) = b) ∧
  ∀ (s t : State) (b : Block 4), s.KstagLegal → s.Ready .aes → exec .invkeyAes s = .next t →
    eiAes t (efAes t b) = b ∧ efAes t (eiAes t b) = b

/-- DesEnc and DesDec are IP, sixteen rounds with the selectors in ascending or descending order, the last swap
undone, FP. Rules R160. -/
def Obligations.DesNetworkRounds : Prop :=
  (∀ (S : Nat → Nat → BitVec 6) (b : Block 2) (l r : Nat → Word),
    (l 0, r 0) = desInitialPermutation (b[0], b[1]) →
    ((∀ i < 16, l (i + 1) = r i ∧ r (i + 1) = l i ^^^ fDes (r i) (S i)) →
      ((desEnc S b)[0], (desEnc S b)[1]) = desFinalPermutation (r 16, l 16)) ∧
    ((∀ i < 16, l (i + 1) = r i ∧ r (i + 1) = l i ^^^ fDes (r i) (S (15 - i))) →
      ((desDec S b)[0], (desDec S b)[1]) = desFinalPermutation (r 16, l 16))) ∧
  ∀ (s : State) (b : Block 2),
    efDes s b = desEnc (fun r i => (s.ksfWord (8 * r + i)).setWidth 6) b ∧
    eiDes s b = desDec (fun r i => (s.ksfWord (8 * r + i)).setWidth 6) b

/-- DesDec inverts DesEnc and DesEnc inverts DesDec for every selector array and block. Rules R163. -/
def Obligations.DesRoundTrip : Prop :=
  ∀ (S : Nat → Nat → BitVec 6) (b : Block 2), desDec S (desEnc S b) = b ∧ desEnc S (desDec S b) = b

/-- F_DES is P(S(E(R) ^ K)): its DES bit p is the S-box output bit that P names. Rules R159, R161, R275, R276, R278.
-/
def Obligations.DesFunctionIsPublished : Prop :=
  ∀ (r : Word) (sel : Nat → BitVec 6), ∀ p < 32, (fDes r sel).getLsbD (31 - p) = desSboxBit r sel (pperm.getD p 0)

/-- The five exchange steps compute the tables IP and FP, and FP and IP are inverse. Rules R279. -/
def Obligations.DesPermutationsAreTheTables : Prop :=
  ∀ l r : Word,
  (∀ j < 64, desBit (desInitialPermutation (l, r)).1 (desInitialPermutation (l, r)).2 (j + 1) = desBit l r (desIp.getD j 0)) ∧
  (∀ j < 64, desBit (desFinalPermutation (l, r)).1 (desFinalPermutation (l, r)).2 (j + 1) = desBit l r (desFp.getD j 0)) ∧
  desFinalPermutation (desInitialPermutation (l, r)) = (l, r) ∧ desInitialPermutation (desFinalPermutation (l, r)) = (l, r)

/-- Ef_TDES is encrypt, decrypt, encrypt with keys 1, 2, 3 in that order; Ei_TDES is its reverse and its inverse.
Rules R178, R179. -/
def Obligations.TdesComposition : Prop :=
  ∀ (s : State) (b : Block 2),
  let S := fun k r i : Nat => (s.ksfWord (128 * k + 8 * r + i)).setWidth 6
  efTdes s b = desEnc (S 2) (desDec (S 1) (desEnc (S 0) b)) ∧
  eiTdes s b = desDec (S 0) (desEnc (S 1) (desDec (S 2) b)) ∧
  eiTdes s (efTdes s b) = b ∧ efTdes s (eiTdes s b) = b

/-- Triple-DES with equal keys is single DES, and with keys 1 and 2 equal it is single DES under key 3. Rules R181. -/
def Obligations.TdesDegeneratesToDes : Prop :=
  ∀ (s t u : State) (b : Block 2), exec (.keyexpTdes 6) s = .next t → exec (.keyexpDes 2) s = .next u →
  s.keyWord 0 = s.keyWord 2 → s.keyWord 1 = s.keyWord 3 →
    efTdes t b = desEnc (fun r i => (t.ksfWord (256 + 8 * r + i)).setWidth 6) b ∧
    (s.keyWord 0 = s.keyWord 4 → s.keyWord 1 = s.keyWord 5 → efTdes t b = efDes u b ∧ eiTdes t b = eiDes u b)

/-- F adds, XORs and adds the four box entries; BfEnc and BfDec run sixteen rounds with the P-array ascending or
descending and the last two entries at the end. Rules R205, R207, R208. -/
def Obligations.BfNetworkRounds : Prop :=
  (∀ (S : Nat → Nat → Word) (x : Word), fBf S x =
    ((S 0 (bitsOf x 24 8) + S 1 (bitsOf x 16 8)) ^^^ S 2 (bitsOf x 8 8)) + S 3 (bitsOf x 0 8)) ∧
  fBf bfS0 0x00000000 = 0x2fcff51e ∧ fBf bfS0 0x01020304 = 0x3cedff8c ∧
  (∀ (P : Nat → Word) (S : Nat → Nat → Word) (b : Block 2) (l r : Nat → Word), l 0 = b[0] → r 0 = b[1] →
    ((∀ i < 16, r (i + 1) = l i ^^^ P i ∧ l (i + 1) = r i ^^^ fBf S (l i ^^^ P i)) →
      bfEnc P S b = #v[r 16 ^^^ P 17, l 16 ^^^ P 16]) ∧
    ((∀ i < 16, r (i + 1) = l i ^^^ P (17 - i) ∧ l (i + 1) = r i ^^^ fBf S (l i ^^^ P (17 - i))) →
      bfDec P S b = #v[r 16 ^^^ P 0, l 16 ^^^ P 1])) ∧
  (∀ (P : Nat → Word) (S : Nat → Nat → Word) (b : Block 2), bfDec P S b = bfEnc (fun i => P (17 - i)) S b) ∧
  ∀ (s : State) (b : Block 2),
    efBf s b = bfEnc s.ksfWord (fun b j => s.ksfWord (18 + 256 * b + j)) b ∧
    eiBf s b = bfDec s.ksfWord (fun b j => s.ksfWord (18 + 256 * b + j)) b

/-- BfDec inverts BfEnc and BfEnc inverts BfDec for every table content and block. Rules R209. -/
def Obligations.BfRoundTrip : Prop :=
  ∀ (P : Nat → Word) (S : Nat → Nat → Word) (b : Block 2), bfDec P S (bfEnc P S b) = b ∧ bfEnc P S (bfDec P S b) = b

/-- ENC.ECB of the four ciphers replaces every block by Ef of it and leaves CHAIN alone. Rules R222. -/
def Obligations.EncryptEcb : Prop :=
  ∀ (c : Cipher) (n : Nat) (s : State), Memory.wf s = true → s.Accepts c false n →
  let B := blockWords c
  ∃ t, exec (encOf .ecb c n) s = .next t ∧ ModeFrame c n s t ∧
    t.chain = s.chain ∧ ∀ k < n / B, t.dataBlock B k = s.ef c (s.dataBlock B k)

/-- DEC.ECB of the four ciphers replaces every block by Ei of it and leaves CHAIN alone. Rules R223. -/
def Obligations.DecryptEcb : Prop :=
  (∀ (c : Cipher) (n : Nat) (s : State), Memory.wf s = true → s.Accepts c (c == .aes) n →
  let B := blockWords c
  ∃ t, exec (decOf .ecb c n) s = .next t ∧ ModeFrame c n s t ∧
    t.chain = s.chain ∧ ∀ k < n / B, t.dataBlock B k = s.ei c (s.dataBlock B k)) ∧
  ∀ (n : Nat) (s : State), s.kstagInv = false → exec (.decEcbAes n) s = .next { s with status := 5 }

/-- ENC.CBC of the four ciphers: each output block is Ef of input XOR the ciphertext block before, the first with
CHAIN; CHAIN becomes the last output. Rules R224. -/
def Obligations.EncryptCbc : Prop :=
  ∀ (c : Cipher) (n : Nat) (s : State), Memory.wf s = true → s.Accepts c false n →
  let B := blockWords c
  ∃ t, exec (encOf .cbc c n) s = .next t ∧ ModeFrame c n s t ∧
    (∀ k < n / B, t.dataBlock B k =
      s.ef c (xorBlock (s.dataBlock B k) (blockBefore (s.chainBlock B) (t.dataBlock B) k))) ∧
    t.chainBlock B = blockBefore (s.chainBlock B) (t.dataBlock B) (n / B)

/-- DEC.CBC of the four ciphers: each output block is Ei of input XOR the ciphertext block before; CHAIN becomes the
last input block. Rules R225. -/
def Obligations.DecryptCbc : Prop :=
  (∀ (c : Cipher) (n : Nat) (s : State), Memory.wf s = true → s.Accepts c (c == .aes) n →
  let B := blockWords c
  ∃ t, exec (decOf .cbc c n) s = .next t ∧ ModeFrame c n s t ∧
    (∀ k < n / B, t.dataBlock B k =
      xorBlock (s.ei c (s.dataBlock B k)) (blockBefore (s.chainBlock B) (s.dataBlock B) k)) ∧
    t.chainBlock B = blockBefore (s.chainBlock B) (s.dataBlock B) (n / B)) ∧
  ∀ (n : Nat) (s : State), s.kstagInv = false → exec (.decCbcAes n) s = .next { s with status := 5 }

/-- ENC.CFB of the four ciphers: each output block is input XOR Ef of the ciphertext block before; CHAIN becomes the
last output. Rules R226. -/
def Obligations.EncryptCfb : Prop :=
  ∀ (c : Cipher) (n : Nat) (s : State), Memory.wf s = true → s.Accepts c false n →
  let B := blockWords c
  ∃ t, exec (encOf .cfb c n) s = .next t ∧ ModeFrame c n s t ∧
    (∀ k < n / B, t.dataBlock B k =
      xorBlock (s.dataBlock B k) (s.ef c (blockBefore (s.chainBlock B) (t.dataBlock B) k))) ∧
    t.chainBlock B = blockBefore (s.chainBlock B) (t.dataBlock B) (n / B)

/-- DEC.CFB of the four ciphers: the same keystream as encryption, with the input block fed back; no inverse schedule
is needed. Rules R227. -/
def Obligations.DecryptCfb : Prop :=
  ∀ (c : Cipher) (n : Nat) (s : State), Memory.wf s = true → s.Accepts c false n →
  let B := blockWords c
  ∃ t, exec (decOf .cfb c n) s = .next t ∧ ModeFrame c n s t ∧
    (∀ k < n / B, t.dataBlock B k =
      xorBlock (s.dataBlock B k) (s.ef c (blockBefore (s.chainBlock B) (s.dataBlock B) k))) ∧
    t.chainBlock B = blockBefore (s.chainBlock B) (s.dataBlock B) (n / B)

/-- ENC.OFB and DEC.OFB of the four ciphers: block k is input XOR Ef applied k+1 times to CHAIN; both directions have
the same effect on every state. Rules R228, R229. -/
def Obligations.OfbBothDirections : Prop :=
  (∀ (c : Cipher) (n : Nat) (s : State), exec (decOf .ofb c n) s = exec (encOf .ofb c n) s) ∧
  ∀ (c : Cipher) (n : Nat) (s : State), Memory.wf s = true → s.Accepts c false n →
  let B := blockWords c
  ∃ t, exec (encOf .ofb c n) s = .next t ∧ ModeFrame c n s t ∧
    (∀ k < n / B, t.dataBlock B k =
      xorBlock (s.dataBlock B k) (applyTimes (s.ef c) (k + 1) (s.chainBlock B))) ∧
    t.chainBlock B = applyTimes (s.ef c) (n / B) (s.chainBlock B)

/-- ENC.CTR and DEC.CTR of the four ciphers: block k is input XOR Ef of CHAIN with its last word plus k; both
directions have the same effect on every state. Rules R230, R231. -/
def Obligations.CtrBothDirections : Prop :=
  (∀ (c : Cipher) (n : Nat) (s : State), exec (decOf .ctr c n) s = exec (encOf .ctr c n) s) ∧
  ∀ (c : Cipher) (n : Nat) (s : State), Memory.wf s = true → s.Accepts c false n →
  let B := blockWords c
  ∃ t, exec (encOf .ctr c n) s = .next t ∧ ModeFrame c n s t ∧
    (∀ k < n / B, t.dataBlock B k =
      xorBlock (s.dataBlock B k) (s.ef c (counterPlus (s.chainBlock B) k))) ∧
    t.chainBlock B = counterPlus (s.chainBlock B) (n / B)

/-- One mode command over n1 + n2 words equals a command over n1 words followed by one over the next n2 words, CHAIN
left alone between them. Rules R234. -/
def Obligations.Resumption : Prop :=
  ∀ (m : Mode) (c : Cipher) (decrypting : Bool) (n1 n2 : Nat) (s : State) (d : List Word),
  let command := fun n => if decrypting then decOf m c n else encOf m c n
  Memory.wf s = true → s.Accepts c (decrypting && decNeedsInverse m c) (n1 + n2) → n1 % blockWords c = 0 →
  d.length = s.data.length → (∀ i < n2, d.getD i 0 = s.dataWord (n1 + i)) →
  ∃ t u w, exec (command (n1 + n2)) s = .next t ∧ exec (command n1) s = .next u ∧
    exec (command n2) { u with data := d } = .next w ∧
    t.status = 0 ∧ u.status = 0 ∧ w.status = 0 ∧
    (∀ i < n1, t.dataWord i = u.dataWord i) ∧ (∀ i < n2, t.dataWord (n1 + i) = w.dataWord i) ∧ t.chain = w.chain

/-- For every cipher, mode and block-aligned message, DEC after ENC with CHAIN restored gives the message back. Rules
R235. -/
def Obligations.DecryptInvertsEncrypt : Prop :=
  ∀ (m : Mode) (c : Cipher) (n : Nat) (s : State), Memory.wf s = true → s.KstagLegal → s.InvTagSound →
  s.Accepts c (decNeedsInverse m c) n →
  ∃ t u, exec (encOf m c n) s = .next t ∧ exec (decOf m c n) { t with chain := s.chain } = .next u ∧
    t.status = 0 ∧ u.status = 0 ∧ u.data = s.data

/-- A change of one ciphertext block reaches that block and the next in CBC and CFB, and that block alone in ECB, OFB
and CTR. Rules R233, R237. -/
def Obligations.ErrorPropagation : Prop :=
  ∀ (m : Mode) (c : Cipher) (n i : Nat) (s : State) (d : List Word),
  let B := blockWords c
  let s' := { s with data := d }
  let change := xorBlock (s.dataBlock B i) (s'.dataBlock B i)
  Memory.wf s = true → s.Accepts c (decNeedsInverse m c) n → i < n / B →
  d.length = s.data.length → (∀ j, j / B ≠ i → d.getD j 0 = s.dataWord j) →
  ∃ t t', exec (decOf m c n) s = .next t ∧ exec (decOf m c n) s' = .next t' ∧
    (∀ k < n / B, k ≠ i → k ≠ i + 1 ∨ m = .ecb ∨ m = .ofb ∨ m = .ctr → t'.dataBlock B k = t.dataBlock B k) ∧
    (m = .cbc → i + 1 < n / B → t'.dataBlock B (i + 1) = xorBlock (t.dataBlock B (i + 1)) change) ∧
    (m = .cfb ∨ m = .ofb ∨ m = .ctr → t'.dataBlock B i = xorBlock (t.dataBlock B i) change) ∧
    (m = .ecb ∨ m = .ofb ∨ m = .ctr ∨ i + 1 < n / B → t'.chain = t.chain) ∧
    (m = .cbc ∨ m = .cfb → i + 1 = n / B → t'.chainBlock B = s'.dataBlock B i)

/-- No command reads a word of KSF or KSI that the schedule in place does not occupy. Rules R31, R32, R33, R34, R35,
R333. -/
def Obligations.UnspecifiedScheduleWordsAreNotRead : Prop :=
  ∀ (c : Cipher) (s : State) (ksf : Vector Word 1042) (ksi : Vector Word 60),
  let s' := { s with ksf := ksf, ksi := ksi }
  s.KstagLegal → s.Ready c →
  (∀ j < scheduleWords c s.kstagNr, ksf.toList.getD j 0 = s.ksfWord j) →
  (s.kstagInv = true → ∀ j < 4 * (s.kstagNr + 1), ksi.toList.getD j 0 = s.ksiWord j) →
  (∀ (m : Mode) (n : Nat) (t : State),
    (exec (encOf m c n) s = .next t → exec (encOf m c n) s' = .next { t with ksf := ksf, ksi := ksi }) ∧
    (exec (decOf m c n) s = .next t → exec (decOf m c n) s' = .next { t with ksf := ksf, ksi := ksi })) ∧
  (c = .aes → ∃ t t', exec .invkeyAes s = .next t ∧ exec .invkeyAes s' = .next t' ∧
    ∀ j < 4 * (s.kstagNr + 1), t'.ksiWord j = t.ksiWord j)

/-- Writing KEY after a key expansion changes the outcome of no ENC, DEC or INVKEY.AES. Rules R25, R107, R344. -/
def Obligations.KeyRegistersDoNotAffectModeCommands : Prop :=
  ∀ (s t : State) (key : Vector Word 14) (i : Instr), (∀ c kw, i ≠ keyexpOf c kw) →
    exec i s = .next t → exec i { s with key := key } = .next { t with key := key }
end

