-- ==== Sys2Proof/Laws/Encoding.lean ====
section
/-! SUPPORT. The fields of a command word as numbers, the cipher and mode a code names, and the number of a word assembled
from its fields (30_encoding.md R72 to R76). -/

namespace Sys2Proof.Machine

/-- The seven fields of R72 as numbers. -/
theorem fields_toNat (v : Word) :
    (fieldOp v).toNat = bitsOf v 0 2 ∧ (fieldCipher v).toNat = bitsOf v 2 2 ∧ (fieldMode v).toNat = bitsOf v 4 3 ∧
      (fieldReserved7 v).toNat = bitsOf v 7 1 ∧ (fieldKeywords v).toNat = bitsOf v 8 4 ∧
      (fieldReserved12 v).toNat = bitsOf v 12 4 ∧ (fieldNwords v).toNat = bitsOf v 16 16 := by
  refine ⟨?_, ?_, ?_, ?_, ?_, ?_, ?_⟩ <;>
    simp [fieldOp, fieldCipher, fieldMode, fieldReserved7, fieldKeywords, fieldReserved12, fieldNwords,
      BitVec.extractLsb'_toNat, Nat.shiftRight_eq_div_pow, bitsOf]

theorem eq_zero_iff_toNat {w : Nat} (x : BitVec w) : x = 0 ↔ x.toNat = 0 := by
  rw [← BitVec.toNat_inj]; simp

@[simp] theorem cipherOf_code (c : Cipher) : cipherOf c.code = c := by cases c <;> rfl
@[simp] theorem code_cipherOf (c : BitVec 2) : (cipherOf c).code = c := by revert c; decide

@[simp] theorem modeOf_code (m : Mode) : modeOf m.code = some m := by cases m <;> rfl
theorem modeOf_eq_some_iff (m : BitVec 3) (mode : Mode) : modeOf m = some mode ↔ mode.code = m := by
  cases mode <;> revert m <;> decide
theorem modeOf_eq_none_iff (m : BitVec 3) : modeOf m = none ↔ 4 < m.toNat := by revert m; decide

theorem mem_keySizes_cipherOf_iff (c : BitVec 2) (kw : Nat) :
    kw ∈ keySizes (cipherOf c) ↔ KeySizeSupported c.toNat kw := by
  have : c = 0 ∨ c = 1 ∨ c = 2 ∨ c = 3 := by revert c; decide
  rcases this with rfl | rfl | rfl | rfl
  all_goals simp [cipherOf, keySizes, KeySizeSupported]
  all_goals omega

/-- An assembled word as a number: the sum of its fields at their places. -/
theorem assembleWord_toNat (op c : BitVec 2) (m : BitVec 3) (kw n : Nat) (hk : kw < 16) (hn : n < 65536) :
    (assembleWord op c m kw n).toNat = op.toNat + 4 * c.toNat + 16 * m.toNat + 256 * kw + 65536 * n := by
  have h1 := op.isLt
  have h2 := c.isLt
  have h3 := m.isLt
  have step : ∀ (x y k : Nat), y < 2 ^ k → x <<< k ||| y = x * 2 ^ k + y := fun x y k h => by
    rw [← Nat.shiftLeft_add_eq_or_of_lt h, Nat.shiftLeft_eq]
  simp only [assembleWord, BitVec.toNat_append, BitVec.toNat_ofNat]
  rw [Nat.mod_eq_of_lt (show kw < 2 ^ 4 by omega), Nat.mod_eq_of_lt (show n < 2 ^ 16 by omega),
    step c.toNat _ _ h1, step m.toNat _ _ (by omega), step (0 % 2 ^ 1) _ _ (by omega), step kw _ _ (by omega),
    step (0 % 2 ^ 4) _ _ (by omega), step n _ _ (by omega)]
  omega

/-- The four shapes of encoding (R76). -/
theorem encode_keyexpOf (c : Cipher) (kw : Nat) : encode (keyexpOf c kw) = formatK c kw := by cases c <;> rfl
theorem encode_encOf (m : Mode) (c : Cipher) (n : Nat) : encode (encOf m c n) = formatEnc m c n := by
  cases m <;> cases c <;> rfl
theorem encode_decOf (m : Mode) (c : Cipher) (n : Nat) : encode (decOf m c n) = formatDec m c n := by
  cases m <;> cases c <;> rfl

/-- `KSTAG` and `CONFIG` fields as numbers. -/
theorem kstagFields_toNat (s : State) :
    (bitsOf s.kstag 8 1 = 1 ↔ s.kstagFwd = true) ∧ (bitsOf s.kstag 9 1 = 1 ↔ s.kstagInv = true) ∧
      bitsOf s.kstag 0 2 = s.kstagCipher.toNat ∧ bitsOf s.kstag 2 5 = s.kstagNr ∧ bitsOf s.config 0 16 = s.dataWords := by
  refine ⟨?_, ?_, ?_, ?_, ?_⟩
  · simp [State.kstagFwd, BitVec.getLsbD, Nat.testBit, Nat.shiftRight_eq_div_pow, Nat.and_comm 1, bitsOf]
  · simp [State.kstagInv, BitVec.getLsbD, Nat.testBit, Nat.shiftRight_eq_div_pow, Nat.and_comm 1, bitsOf]
  · simp [State.kstagCipher, BitVec.extractLsb'_toNat, bitsOf]
  · simp [State.kstagNr, BitVec.extractLsb'_toNat, Nat.shiftRight_eq_div_pow, bitsOf]
  · simp [State.dataWords, BitVec.extractLsb'_toNat, bitsOf]

end Sys2Proof.Machine
end

