-- ==== Sys2Proof/Laws/State.lean ====
section
/-! SUPPORT. One lemma per field per update of the state: what `raise`, `succeed`, the three stores, the end of a
`KEYEXP`, a mode command's blocks, a reset and the placing of a command leave in each field. -/

namespace Sys2Proof.Machine

/-! ## `raise` (R303) -/

@[simp] theorem State.raise_cmd (s : State) (e : CommandError) : (s.raise e).cmd = s.cmd := rfl
@[simp] theorem State.raise_status (s : State) (e : CommandError) :
    (s.raise e).status = statusWord (errorCode e) := rfl
@[simp] theorem State.raise_kstag (s : State) (e : CommandError) : (s.raise e).kstag = s.kstag := rfl
@[simp] theorem State.raise_config (s : State) (e : CommandError) : (s.raise e).config = s.config := rfl
@[simp] theorem State.raise_key (s : State) (e : CommandError) : (s.raise e).key = s.key := rfl
@[simp] theorem State.raise_chain (s : State) (e : CommandError) : (s.raise e).chain = s.chain := rfl
@[simp] theorem State.raise_ksf (s : State) (e : CommandError) : (s.raise e).ksf = s.ksf := rfl
@[simp] theorem State.raise_ksi (s : State) (e : CommandError) : (s.raise e).ksi = s.ksi := rfl
@[simp] theorem State.raise_data (s : State) (e : CommandError) : (s.raise e).data = s.data := rfl
@[simp] theorem State.raise_requests (s : State) (e : CommandError) : (s.raise e).requests = s.requests := rfl
@[simp] theorem State.raise_response (s : State) (e : CommandError) : (s.raise e).response = s.response := rfl
@[simp] theorem State.raise_resets (s : State) (e : CommandError) : (s.raise e).resets = s.resets := rfl

/-! ## `succeed` -/

@[simp] theorem State.succeed_cmd (s : State) : (s.succeed).cmd = s.cmd := rfl
@[simp] theorem State.succeed_status (s : State) : (s.succeed).status = 0 := rfl
@[simp] theorem State.succeed_kstag (s : State) : (s.succeed).kstag = s.kstag := rfl
@[simp] theorem State.succeed_config (s : State) : (s.succeed).config = s.config := rfl
@[simp] theorem State.succeed_key (s : State) : (s.succeed).key = s.key := rfl
@[simp] theorem State.succeed_chain (s : State) : (s.succeed).chain = s.chain := rfl
@[simp] theorem State.succeed_ksf (s : State) : (s.succeed).ksf = s.ksf := rfl
@[simp] theorem State.succeed_ksi (s : State) : (s.succeed).ksi = s.ksi := rfl
@[simp] theorem State.succeed_data (s : State) : (s.succeed).data = s.data := rfl
@[simp] theorem State.succeed_requests (s : State) : (s.succeed).requests = s.requests := rfl
@[simp] theorem State.succeed_response (s : State) : (s.succeed).response = s.response := rfl
@[simp] theorem State.succeed_resets (s : State) : (s.succeed).resets = s.resets := rfl

/-! ## `storeKsf` (R30) -/

@[simp] theorem State.storeKsf_cmd (s : State) (ws : List Word) : (s.storeKsf ws).cmd = s.cmd := rfl
@[simp] theorem State.storeKsf_status (s : State) (ws : List Word) : (s.storeKsf ws).status = s.status := rfl
@[simp] theorem State.storeKsf_kstag (s : State) (ws : List Word) : (s.storeKsf ws).kstag = s.kstag := rfl
@[simp] theorem State.storeKsf_config (s : State) (ws : List Word) : (s.storeKsf ws).config = s.config := rfl
@[simp] theorem State.storeKsf_key (s : State) (ws : List Word) : (s.storeKsf ws).key = s.key := rfl
@[simp] theorem State.storeKsf_chain (s : State) (ws : List Word) : (s.storeKsf ws).chain = s.chain := rfl
@[simp] theorem State.storeKsf_ksf (s : State) (ws : List Word) : (s.storeKsf ws).ksf = overlayVector ws s.ksf := rfl
@[simp] theorem State.storeKsf_ksi (s : State) (ws : List Word) : (s.storeKsf ws).ksi = s.ksi := rfl
@[simp] theorem State.storeKsf_data (s : State) (ws : List Word) : (s.storeKsf ws).data = s.data := rfl
@[simp] theorem State.storeKsf_requests (s : State) (ws : List Word) : (s.storeKsf ws).requests = s.requests := rfl
@[simp] theorem State.storeKsf_response (s : State) (ws : List Word) : (s.storeKsf ws).response = s.response := rfl
@[simp] theorem State.storeKsf_resets (s : State) (ws : List Word) : (s.storeKsf ws).resets = s.resets := rfl

/-! ## `storeKsi` (R35) -/

@[simp] theorem State.storeKsi_cmd (s : State) (ws : List Word) : (s.storeKsi ws).cmd = s.cmd := rfl
@[simp] theorem State.storeKsi_status (s : State) (ws : List Word) : (s.storeKsi ws).status = s.status := rfl
@[simp] theorem State.storeKsi_kstag (s : State) (ws : List Word) : (s.storeKsi ws).kstag = s.kstag := rfl
@[simp] theorem State.storeKsi_config (s : State) (ws : List Word) : (s.storeKsi ws).config = s.config := rfl
@[simp] theorem State.storeKsi_key (s : State) (ws : List Word) : (s.storeKsi ws).key = s.key := rfl
@[simp] theorem State.storeKsi_chain (s : State) (ws : List Word) : (s.storeKsi ws).chain = s.chain := rfl
@[simp] theorem State.storeKsi_ksf (s : State) (ws : List Word) : (s.storeKsi ws).ksf = s.ksf := rfl
@[simp] theorem State.storeKsi_ksi (s : State) (ws : List Word) : (s.storeKsi ws).ksi = overlayVector ws s.ksi := rfl
@[simp] theorem State.storeKsi_data (s : State) (ws : List Word) : (s.storeKsi ws).data = s.data := rfl
@[simp] theorem State.storeKsi_requests (s : State) (ws : List Word) : (s.storeKsi ws).requests = s.requests := rfl
@[simp] theorem State.storeKsi_response (s : State) (ws : List Word) : (s.storeKsi ws).response = s.response := rfl
@[simp] theorem State.storeKsi_resets (s : State) (ws : List Word) : (s.storeKsi ws).resets = s.resets := rfl

/-! ## `storeChain` (R26) -/

@[simp] theorem State.storeChain_cmd (s : State) (ws : List Word) : (s.storeChain ws).cmd = s.cmd := rfl
@[simp] theorem State.storeChain_status (s : State) (ws : List Word) : (s.storeChain ws).status = s.status := rfl
@[simp] theorem State.storeChain_kstag (s : State) (ws : List Word) : (s.storeChain ws).kstag = s.kstag := rfl
@[simp] theorem State.storeChain_config (s : State) (ws : List Word) : (s.storeChain ws).config = s.config := rfl
@[simp] theorem State.storeChain_key (s : State) (ws : List Word) : (s.storeChain ws).key = s.key := rfl
@[simp] theorem State.storeChain_chain (s : State) (ws : List Word) :
    (s.storeChain ws).chain = overlayVector ws s.chain := rfl
@[simp] theorem State.storeChain_ksf (s : State) (ws : List Word) : (s.storeChain ws).ksf = s.ksf := rfl
@[simp] theorem State.storeChain_ksi (s : State) (ws : List Word) : (s.storeChain ws).ksi = s.ksi := rfl
@[simp] theorem State.storeChain_data (s : State) (ws : List Word) : (s.storeChain ws).data = s.data := rfl
@[simp] theorem State.storeChain_requests (s : State) (ws : List Word) :
    (s.storeChain ws).requests = s.requests := rfl
@[simp] theorem State.storeChain_response (s : State) (ws : List Word) :
    (s.storeChain ws).response = s.response := rfl
@[simp] theorem State.storeChain_resets (s : State) (ws : List Word) : (s.storeChain ws).resets = s.resets := rfl

/-! ## The end of a `KEYEXP` (R104, R144, R177, R193) -/

@[simp] theorem installSchedule_cmd (c : Cipher) (kw : Nat) (ws : List Word) (s : State) :
    (installSchedule c kw ws s).cmd = s.cmd := rfl
@[simp] theorem installSchedule_status (c : Cipher) (kw : Nat) (ws : List Word) (s : State) :
    (installSchedule c kw ws s).status = 0 := rfl
@[simp] theorem installSchedule_kstag (c : Cipher) (kw : Nat) (ws : List Word) (s : State) :
    (installSchedule c kw ws s).kstag = kstagWord c (roundCount c kw) := rfl
@[simp] theorem installSchedule_config (c : Cipher) (kw : Nat) (ws : List Word) (s : State) :
    (installSchedule c kw ws s).config = s.config := rfl
@[simp] theorem installSchedule_key (c : Cipher) (kw : Nat) (ws : List Word) (s : State) :
    (installSchedule c kw ws s).key = s.key := rfl
@[simp] theorem installSchedule_chain (c : Cipher) (kw : Nat) (ws : List Word) (s : State) :
    (installSchedule c kw ws s).chain = s.chain := rfl
@[simp] theorem installSchedule_ksf (c : Cipher) (kw : Nat) (ws : List Word) (s : State) :
    (installSchedule c kw ws s).ksf = overlayVector ws s.ksf := rfl
@[simp] theorem installSchedule_ksi (c : Cipher) (kw : Nat) (ws : List Word) (s : State) :
    (installSchedule c kw ws s).ksi = s.ksi := rfl
@[simp] theorem installSchedule_data (c : Cipher) (kw : Nat) (ws : List Word) (s : State) :
    (installSchedule c kw ws s).data = s.data := rfl
@[simp] theorem installSchedule_requests (c : Cipher) (kw : Nat) (ws : List Word) (s : State) :
    (installSchedule c kw ws s).requests = s.requests := rfl
@[simp] theorem installSchedule_response (c : Cipher) (kw : Nat) (ws : List Word) (s : State) :
    (installSchedule c kw ws s).response = s.response := rfl
@[simp] theorem installSchedule_resets (c : Cipher) (kw : Nat) (ws : List Word) (s : State) :
    (installSchedule c kw ws s).resets = s.resets := rfl

/-! ## The blocks of a mode command (R232) -/

@[simp] theorem processBlocks_cmd {B : Nat} (step : BlockStep B) (n : Nat) (s : State) :
    (processBlocks step n s).cmd = s.cmd := rfl
@[simp] theorem processBlocks_status {B : Nat} (step : BlockStep B) (n : Nat) (s : State) :
    (processBlocks step n s).status = s.status := rfl
@[simp] theorem processBlocks_kstag {B : Nat} (step : BlockStep B) (n : Nat) (s : State) :
    (processBlocks step n s).kstag = s.kstag := rfl
@[simp] theorem processBlocks_config {B : Nat} (step : BlockStep B) (n : Nat) (s : State) :
    (processBlocks step n s).config = s.config := rfl
@[simp] theorem processBlocks_key {B : Nat} (step : BlockStep B) (n : Nat) (s : State) :
    (processBlocks step n s).key = s.key := rfl
@[simp] theorem processBlocks_chain {B : Nat} (step : BlockStep B) (n : Nat) (s : State) :
    (processBlocks step n s).chain = overlayVector (runBlocks step (n / B) s.data (s.chainBlock B)).2.toList s.chain := rfl
@[simp] theorem processBlocks_ksf {B : Nat} (step : BlockStep B) (n : Nat) (s : State) :
    (processBlocks step n s).ksf = s.ksf := rfl
@[simp] theorem processBlocks_ksi {B : Nat} (step : BlockStep B) (n : Nat) (s : State) :
    (processBlocks step n s).ksi = s.ksi := rfl
@[simp] theorem processBlocks_data {B : Nat} (step : BlockStep B) (n : Nat) (s : State) :
    (processBlocks step n s).data = (runBlocks step (n / B) s.data (s.chainBlock B)).1 := rfl
@[simp] theorem processBlocks_requests {B : Nat} (step : BlockStep B) (n : Nat) (s : State) :
    (processBlocks step n s).requests = s.requests := rfl
@[simp] theorem processBlocks_response {B : Nat} (step : BlockStep B) (n : Nat) (s : State) :
    (processBlocks step n s).response = s.response := rfl
@[simp] theorem processBlocks_resets {B : Nat} (step : BlockStep B) (n : Nat) (s : State) :
    (processBlocks step n s).resets = s.resets := rfl

/-! ## `Reset` (R330) -/

@[simp] theorem resetEngine_cmd (s : State) : (resetEngine s).cmd = 0 := rfl
@[simp] theorem resetEngine_status (s : State) : (resetEngine s).status = 0 := rfl
@[simp] theorem resetEngine_kstag (s : State) : (resetEngine s).kstag = 0 := rfl
@[simp] theorem resetEngine_config (s : State) : (resetEngine s).config = s.config := rfl
@[simp] theorem resetEngine_key (s : State) : (resetEngine s).key = Vector.replicate 14 0 := rfl
@[simp] theorem resetEngine_chain (s : State) : (resetEngine s).chain = Vector.replicate 4 0 := rfl
@[simp] theorem resetEngine_requests (s : State) : (resetEngine s).requests = s.requests := rfl
@[simp] theorem resetEngine_response (s : State) : (resetEngine s).response = .resetDone := rfl
@[simp] theorem resetEngine_resets (s : State) : (resetEngine s).resets = s.resets + 1 := rfl

/-! ## Placing a command -/

@[simp] theorem State.withCommand_cmd (s : State) (w : Word) : (s.withCommand w).cmd = s.cmd := rfl
@[simp] theorem State.withCommand_status (s : State) (w : Word) : (s.withCommand w).status = s.status := rfl
@[simp] theorem State.withCommand_kstag (s : State) (w : Word) : (s.withCommand w).kstag = s.kstag := rfl
@[simp] theorem State.withCommand_config (s : State) (w : Word) : (s.withCommand w).config = s.config := rfl
@[simp] theorem State.withCommand_key (s : State) (w : Word) : (s.withCommand w).key = s.key := rfl
@[simp] theorem State.withCommand_chain (s : State) (w : Word) : (s.withCommand w).chain = s.chain := rfl
@[simp] theorem State.withCommand_ksf (s : State) (w : Word) : (s.withCommand w).ksf = s.ksf := rfl
@[simp] theorem State.withCommand_ksi (s : State) (w : Word) : (s.withCommand w).ksi = s.ksi := rfl
@[simp] theorem State.withCommand_data (s : State) (w : Word) : (s.withCommand w).data = s.data := rfl
@[simp] theorem State.withCommand_requests (s : State) (w : Word) :
    (s.withCommand w).requests = .write 0 w :: s.requests := rfl
@[simp] theorem State.withCommand_response (s : State) (w : Word) : (s.withCommand w).response = s.response := rfl
@[simp] theorem State.withCommand_resets (s : State) (w : Word) : (s.withCommand w).resets = s.resets := rfl

end Sys2Proof.Machine
end

