-- ==== Sys2Proof/Laws/Ops.lean ====
section
/-! SUPPORT. What the shared operations do, once each: overlaying a list of words, the stores, the address map, a host
read, a host write and a reset. -/

namespace Sys2Proof.Machine

/-! ## Overlaying -/

@[simp] theorem length_overlay (new old : List Word) : (overlay new old).length = old.length := overlay_length new old

/-- Word `i` of an overlaid list: the new word where there is one inside the old list, else the old one. -/
theorem getD_overlay : ∀ (new old : List Word) (i : Nat),
    (overlay new old).getD i 0 = if i < new.length ∧ i < old.length then new.getD i 0 else old.getD i 0
  | [], old, i => by simp [overlay]
  | _ :: _, [], i => by simp [overlay]
  | w :: ws, o :: os, 0 => by simp [overlay]
  | w :: ws, o :: os, i + 1 => by simpa [overlay] using getD_overlay ws os i

@[simp] theorem toList_overlayVector {k : Nat} (new : List Word) (old : Vector Word k) :
    (overlayVector new old).toList = overlay new old.toList := rfl

/-- Word `i` of an overlaid file. -/
theorem getD_overlayVector {k : Nat} (new : List Word) (old : Vector Word k) (i : Nat) :
    (overlayVector new old).toList.getD i 0 =
      if i < new.length ∧ i < k then new.getD i 0 else old.toList.getD i 0 := by
  rw [toList_overlayVector, getD_overlay, Vector.length_toList]

/-- Overlaying nothing changes nothing. -/
@[simp] theorem overlay_nil (old : List Word) : overlay [] old = old := rfl

/-! ## Words of the files after a store -/

theorem ksfWord_storeKsf (s : State) (ws : List Word) (i : Nat) :
    (s.storeKsf ws).ksfWord i = if i < ws.length ∧ i < 1042 then ws.getD i 0 else s.ksfWord i :=
  getD_overlayVector ws s.ksf i

theorem ksiWord_storeKsi (s : State) (ws : List Word) (i : Nat) :
    (s.storeKsi ws).ksiWord i = if i < ws.length ∧ i < 60 then ws.getD i 0 else s.ksiWord i :=
  getD_overlayVector ws s.ksi i

theorem chainWord_storeChain (s : State) (ws : List Word) (i : Nat) :
    (s.storeChain ws).chainWord i = if i < ws.length ∧ i < 4 then ws.getD i 0 else s.chainWord i :=
  getD_overlayVector ws s.chain i

/-- Word `i` of a file as an entry, in range. -/
theorem getD_toList_eq_getElem {k : Nat} (v : Vector Word k) (i : Nat) (h : i < k) : v.toList.getD i 0 = v[i] := by
  simp [List.getD_eq_getElem?_getD, h]

theorem keyWord_eq (s : State) (i : Nat) (h : i < 14) : s.keyWord i = s.key[i] := getD_toList_eq_getElem s.key i h
theorem chainWord_eq (s : State) (i : Nat) (h : i < 4) : s.chainWord i = s.chain[i] := getD_toList_eq_getElem s.chain i h
theorem ksfWord_eq (s : State) (i : Nat) (h : i < 1042) : s.ksfWord i = s.ksf[i] := getD_toList_eq_getElem s.ksf i h
theorem ksiWord_eq (s : State) (i : Nat) (h : i < 60) : s.ksiWord i = s.ksi[i] := getD_toList_eq_getElem s.ksi i h

/-! ## Two files with the same words are the same file -/

theorem vector_eq_of_getD {k : Nat} (v w : Vector Word k) (h : ∀ i < k, v.toList.getD i 0 = w.toList.getD i 0) :
    v = w := by
  refine Vector.ext fun i hi => ?_
  rw [← getD_toList_eq_getElem v i hi, ← getD_toList_eq_getElem w i hi]
  exact h i hi

/-! ## The address map (R51) -/

theorem addressMap_cmd_iff (dw : Nat) (a : Word) : addressMap dw a = some .cmd ↔ a = 0 := by
  constructor
  · intro h
    by_contra ha
    have : a.toNat ≠ 0 := fun hz => ha (BitVec.eq_of_toNat_eq (by simpa using hz))
    simp only [addressMap] at h
    repeat' split at h
    all_goals simp_all
  · rintro rfl
    simp [addressMap]

theorem addressMap_data_lt {dw : Nat} {a : Word} {i : Nat} (h : addressMap dw a = some (.data i)) : i < dw := by
  simp only [addressMap] at h
  repeat' split at h
  all_goals simp_all
  omega

/-! ## Host reads and writes (R53, R54, R55) -/

/-- All a host read can do: return the word and change nothing, or a bus error. -/
theorem hostRead_cases (a : Word) (s : State) :
    (∃ w, s.busWord a = some w ∧ hostRead a s = { s with response := .word w }) ∨
    (s.busWord a = none ∧ hostRead a s = { s with response := .busError }) := by
  unfold hostRead
  cases h : s.busWord a with
  | none => exact .inr ⟨rfl, rfl⟩
  | some w => exact .inl ⟨w, rfl, rfl⟩

/-- All a host write to an address other than `CMD` can do: store into `KEY`, `CHAIN` or `DATA`, or a bus error that
changes nothing. -/
theorem hostWrite_cases (a v : Word) (s : State) :
    (∃ i, addressMap s.dataWords a = some (.key i) ∧
      hostWrite a v s = { s with key := s.key.set i v, response := .written }) ∨
    (∃ i, addressMap s.dataWords a = some (.chain i) ∧
      hostWrite a v s = { s with chain := s.chain.set i v, response := .written }) ∨
    (∃ i, addressMap s.dataWords a = some (.data i) ∧ i < s.dataWords ∧
      hostWrite a v s = { s with data := s.data.set i v, response := .written }) ∨
    hostWrite a v s = { s with response := .busError } := by
  unfold hostWrite
  split
  · exact .inl ⟨_, ‹_›, rfl⟩
  · exact .inr (.inl ⟨_, ‹_›, rfl⟩)
  · exact .inr (.inr (.inl ⟨_, ‹_›, addressMap_data_lt ‹_›, rfl⟩))
  · exact .inr (.inr (.inr rfl))

@[simp] theorem hostRead_config (a : Word) (s : State) : (hostRead a s).config = s.config := by
  rcases hostRead_cases a s with ⟨w, -, h⟩ | ⟨-, h⟩ <;> simp [h]

@[simp] theorem hostWrite_config (a v : Word) (s : State) : (hostWrite a v s).config = s.config := by
  rcases hostWrite_cases a v s with ⟨i, -, h⟩ | ⟨i, -, h⟩ | ⟨i, -, -, h⟩ | h <;> simp [h]

/-! ## Reset (R330) -/

@[simp] theorem resetEngine_data_length (s : State) : (resetEngine s).data.length = s.dataWords := by
  simp [resetEngine]

/-! ## `DATA_WORDS` depends on `CONFIG` alone -/

theorem dataWords_congr {s t : State} (h : t.config = s.config) : t.dataWords = s.dataWords := by
  simp [State.dataWords, h]

theorem State.reset_dataWords : State.reset.dataWords = Config.dataWords := by
  have := Config.dataWordsAboveFour.isLt
  simp only [State.dataWords, State.reset, Config.dataWords]
  rw [BitVec.extractLsb'_toNat]
  simp
  omega

end Sys2Proof.Machine
end

