-- ==== Sys2Proof/Laws/ModeDriver.lean ====
section
/-! SUPPORT. What the shared block-mode state machine does, once: the iteration over blocks as a recurrence on the chain
block, the checks, and all the outcomes of a mode command. -/

namespace Sys2Proof.Machine

/-! ## The iteration (R221) -/

/-- The chain block before block `k` of an iteration over the words `ws` from the chain block `ch`. -/
def chainBefore {B : Nat} (step : BlockStep B) (ws : List Word) (ch : Block B) : Nat → Block B
  | 0 => ch
  | k + 1 => (step (blockAt B (ws.drop (k * B))) (chainBefore step ws ch k)).2

@[simp] theorem chainBefore_zero {B : Nat} (step : BlockStep B) (ws : List Word) (ch : Block B) :
    chainBefore step ws ch 0 = ch := rfl

theorem chainBefore_succ {B : Nat} (step : BlockStep B) (ws : List Word) (ch : Block B) (k : Nat) :
    chainBefore step ws ch (k + 1) = (step (blockAt B (ws.drop (k * B))) (chainBefore step ws ch k)).2 := rfl

theorem chainBefore_drop {B : Nat} (step : BlockStep B) (ws : List Word) (ch : Block B) (k : Nat) :
    chainBefore step (ws.drop B) (step (blockAt B ws) ch).2 k = chainBefore step ws ch (k + 1) := by
  induction k with
  | zero => simp [chainBefore]
  | succ k ih => rw [chainBefore_succ, ih, chainBefore_succ _ _ _ (k + 1), List.drop_drop]; congr 4; ring

/-- The chain block before block `k` depends on the first `k` blocks only. -/
theorem chainBefore_congr {B : Nat} (step : BlockStep B) (ws ws' : List Word) (ch : Block B) (k : Nat)
    (h : ∀ j < k, blockAt B (ws.drop (j * B)) = blockAt B (ws'.drop (j * B))) :
    chainBefore step ws ch k = chainBefore step ws' ch k := by
  induction k with
  | zero => rfl
  | succ k ih => rw [chainBefore_succ, chainBefore_succ, h k (by omega), ih fun j hj => h j (by omega)]

/-- An iteration can be cut after `a` blocks. -/
theorem chainBefore_add {B : Nat} (step : BlockStep B) (ws : List Word) (ch : Block B) (a b : Nat) :
    chainBefore step ws ch (a + b) = chainBefore step (ws.drop (a * B)) (chainBefore step ws ch a) b := by
  induction b with
  | zero => rfl
  | succ b ih => rw [← Nat.add_assoc, chainBefore_succ, ih, chainBefore_succ, List.drop_drop, Nat.add_mul]

/-- The chain block after the iteration. -/
theorem runBlocks_chain {B : Nat} (step : BlockStep B) (nb : Nat) (ws : List Word) (ch : Block B) :
    (runBlocks step nb ws ch).2 = chainBefore step ws ch nb := by
  induction nb generalizing ws ch with
  | zero => rfl
  | succ nb ih => simp only [runBlocks, ih, chainBefore_drop]

/-- Output block `k` is the first result of the block step on input block `k` and the chain block before it. -/
theorem runBlocks_block {B : Nat} (step : BlockStep B) (nb : Nat) (ws : List Word) (ch : Block B) (k : Nat)
    (h : k < nb) :
    blockAt B ((runBlocks step nb ws ch).1.drop (k * B)) =
      (step (blockAt B (ws.drop (k * B))) (chainBefore step ws ch k)).1 := by
  induction nb generalizing ws ch k with
  | zero => omega
  | succ nb ih =>
    cases k with
    | zero =>
      refine Vector.ext fun i hi => ?_
      simp [runBlocks, blockAt, List.getElem?_append]
    | succ k =>
      have hd : (runBlocks step (nb + 1) ws ch).1.drop ((k + 1) * B) =
          (runBlocks step nb (ws.drop B) (step (blockAt B ws) ch).2).1.drop (k * B) := by
        simp only [runBlocks]
        rw [show (k + 1) * B = B + k * B by ring, ← List.drop_drop, List.drop_left' (by simp)]
      rw [hd, ih _ _ _ (by omega), chainBefore_drop, List.drop_drop]
      congr 4; ring

/-- Words beyond the blocks stay. -/
theorem runBlocks_rest {B : Nat} (step : BlockStep B) (nb : Nat) (ws : List Word) (ch : Block B) (j : Nat)
    (h : nb * B ≤ j) : (runBlocks step nb ws ch).1.getD j 0 = ws.getD j 0 := by
  induction nb generalizing ws ch j with
  | zero => rfl
  | succ nb ih =>
    have hB : B ≤ j := by nlinarith
    have hj : nb * B ≤ j - B := by rw [Nat.succ_mul] at h; omega
    have := ih (ws.drop B) (step (blockAt B ws) ch).2 (j - B) hj
    simp only [runBlocks, List.getD_eq_getElem?_getD] at this ⊢
    rw [List.getElem?_append_right (by simpa using hB), Vector.length_toList, this, List.getElem?_drop,
      Nat.add_sub_cancel' hB]

/-- The number of words stays. -/
theorem runBlocks_length {B : Nat} (step : BlockStep B) (nb : Nat) (ws : List Word) (ch : Block B)
    (h : nb * B ≤ ws.length) : (runBlocks step nb ws ch).1.length = ws.length := by
  induction nb generalizing ws ch with
  | zero => rfl
  | succ nb ih =>
    rw [Nat.succ_mul] at h
    simp only [runBlocks, List.length_append, Vector.length_toList]
    rw [ih _ _ (by simp; omega)]
    simp; omega

/-! ## Blocks of the state after a mode command (R232) -/

theorem dataBlock_eq_blockAt (s : State) (B k : Nat) : s.dataBlock B k = blockAt B (s.data.drop (k * B)) := by
  refine Vector.ext fun i hi => ?_
  simp [State.dataBlock, State.dataWord, blockAt]

/-- A word of `DATA` is an entry of its block. -/
theorem dataWord_eq_dataBlock (s : State) (B i : Nat) (hB : 0 < B) :
    s.dataWord i = (s.dataBlock B (i / B))[i % B]'(Nat.mod_lt _ hB) := by
  simp only [State.dataBlock, Vector.getElem_ofFn]
  rw [Nat.div_add_mod']

/-- The chain block before block `k` of a command on state `s`. -/
abbrev State.chainBefore {B : Nat} (s : State) (step : BlockStep B) : Nat → Block B :=
  Machine.chainBefore step s.data (s.chainBlock B)

theorem State.chainBefore_succ {B : Nat} (s : State) (step : BlockStep B) (k : Nat) :
    s.chainBefore step (k + 1) = (step (s.dataBlock B k) (s.chainBefore step k)).2 := by
  rw [dataBlock_eq_blockAt]; rfl

/-- Output block `k`. -/
theorem dataBlock_processBlocks {B : Nat} (step : BlockStep B) (n : Nat) (s : State) (k : Nat) (h : k < n / B) :
    (processBlocks step n s).dataBlock B k = (step (s.dataBlock B k) (s.chainBefore step k)).1 := by
  rw [dataBlock_eq_blockAt, processBlocks_data, runBlocks_block step _ _ _ k h, dataBlock_eq_blockAt]

/-- The words from `n` on stay. -/
theorem dataWord_processBlocks {B : Nat} (step : BlockStep B) (n : Nat) (s : State) (j : Nat) (h : n ≤ j) :
    (processBlocks step n s).dataWord j = s.dataWord j :=
  runBlocks_rest step _ _ _ j (le_trans (Nat.div_mul_le_self n B) h)

/-- `CHAIN[0 .. B-1]` after the last block. -/
theorem chainBlock_processBlocks {B : Nat} (step : BlockStep B) (n : Nat) (s : State) (hB : B ≤ 4) :
    (processBlocks step n s).chainBlock B = s.chainBefore step (n / B) := by
  refine Vector.ext fun i hi => ?_
  have h4 : i < 4 := lt_of_lt_of_le hi hB
  simp only [State.chainBlock, Vector.getElem_ofFn, State.chainWord, processBlocks_chain]
  rw [getD_overlayVector, if_pos ⟨by simpa using hi, h4⟩, runBlocks_chain]
  exact getD_toList_eq_getElem _ i hi

/-- `CHAIN` beyond the block stays. -/
theorem chainWord_processBlocks {B : Nat} (step : BlockStep B) (n : Nat) (s : State) (j : Nat) (h : B ≤ j) :
    (processBlocks step n s).chainWord j = s.chainWord j := by
  simp only [State.chainWord, processBlocks_chain]
  rw [getD_overlayVector, if_neg]
  simp; omega

/-- The length of `DATA` stays. -/
theorem length_processBlocks {B : Nat} (step : BlockStep B) (n : Nat) (s : State) (h : n ≤ s.data.length) :
    (processBlocks step n s).data.length = s.data.length :=
  runBlocks_length step _ _ _ (le_trans (Nat.div_mul_le_self n B) h)

/-- Overlaying `CHAIN` with its own block changes nothing. -/
theorem overlayVector_chainBlock (s : State) (B : Nat) :
    overlayVector (s.chainBlock B).toList s.chain = s.chain := by
  refine vector_eq_of_getD _ _ fun i hi => ?_
  rw [getD_overlayVector]
  split
  · rename_i h
    rw [getD_toList_eq_getElem _ i (by simpa using h.1)]
    simp [State.chainBlock, State.chainWord]
  · rfl

/-! ## The checks (R220) -/

/-- The checks of R220 pass exactly on the accepted commands. -/
theorem modeError_eq_none_iff (c : Cipher) (needInv : Bool) (n : Nat) (s : State) :
    modeError c needInv n s = none ↔
      (s.kstagFwd = true ∧ s.kstagCipher = c.code) ∧ (needInv = true → s.kstagInv = true) ∧
        n % blockWords c = 0 ∧ n ≤ s.dataWords := by
  unfold modeError
  cases s.kstagFwd <;> cases s.kstagInv <;> cases needInv <;> by_cases hc : s.kstagCipher = c.code <;>
    by_cases ha : n % blockWords c = 0 <;> by_cases hn : n ≤ s.dataWords <;>
    simp [hc, ha, hn, Nat.lt_of_not_le]

/-- A failing check is one of the three errors of R220. -/
theorem modeError_eq_some {c : Cipher} {needInv : Bool} {n : Nat} {s : State} {e : CommandError}
    (h : modeError c needInv n s = some e) : e = .scheduleNotReady ∨ e = .misalignedInput ∨ e = .outOfBounds := by
  unfold modeError at h
  repeat' split at h
  all_goals simp_all

theorem modeError_congr {c : Cipher} {needInv : Bool} {n : Nat} {s t : State} (hk : t.kstag = s.kstag)
    (hc : t.config = s.config) : modeError c needInv n t = modeError c needInv n s := by
  simp [modeError, State.kstagFwd, State.kstagCipher, State.kstagInv, State.dataWords, hk, hc]

/-- All a mode command can do: nothing but an error code, or its blocks and success. -/
theorem modeCommand_cases {B : Nat} (c : Cipher) (needInv : Bool) (step : BlockStep B) (n : Nat) (s : State) :
    (∃ e, modeError c needInv n s = some e ∧ modeCommand c needInv step n s = .next (s.raise e)) ∨
    (modeError c needInv n s = none ∧ modeCommand c needInv step n s = .next (processBlocks step n s).succeed) := by
  unfold modeCommand
  cases h : modeError c needInv n s with
  | none => exact .inr ⟨rfl, rfl⟩
  | some e => exact .inl ⟨e, rfl, rfl⟩

/-- An accepted mode command completes with its blocks. -/
theorem modeCommand_of_accepted {B : Nat} {c : Cipher} {needInv : Bool} {n : Nat} {s : State} (step : BlockStep B)
    (h : modeError c needInv n s = none) :
    modeCommand c needInv step n s = .next (processBlocks step n s).succeed := by
  simp [modeCommand, h]

end Sys2Proof.Machine
end

