-- ==== Sys2Proof/Laws/Exec.lean ====
section
/-! SUPPORT. `exec` by family: the meanings as instances of the shared operations, all the outcomes of a `KEYEXP`, of
`INVKEY.AES` and of any command, and the host's steps. -/

namespace Sys2Proof.Machine

/-! ## The forty mode commands as one (R221) -/

/-- The block step of `ENC` in a mode. -/
def encStep {B : Nat} (m : Mode) (ef : Block B → Block B) : BlockStep B :=
  match m with
  | .ecb => ecbStep ef
  | .cbc => cbcEncStep ef
  | .cfb => cfbEncStep ef
  | .ofb => ofbStep ef
  | .ctr => ctrStep ef

/-- The block step of `DEC` in a mode. -/
def decStep {B : Nat} (m : Mode) (ef ei : Block B → Block B) : BlockStep B :=
  match m with
  | .ecb => ecbStep ei
  | .cbc => cbcDecStep ei
  | .cfb => cfbDecStep ef
  | .ofb => ofbStep ef
  | .ctr => ctrStep ef

theorem exec_encOf (m : Mode) (c : Cipher) (n : Nat) (s : State) :
    exec (encOf m c n) s = modeCommand c false (encStep m (s.ef c)) n s := by
  cases m <;> cases c <;> rfl

theorem exec_decOf (m : Mode) (c : Cipher) (n : Nat) (s : State) :
    exec (decOf m c n) s = modeCommand c (decNeedsInverse m c) (decStep m (s.ef c) (s.ei c)) n s := by
  cases m <;> cases c <;> rfl

theorem blockWords_le_four (c : Cipher) : blockWords c ≤ 4 := by cases c <;> decide
theorem blockWords_pos (c : Cipher) : 0 < blockWords c := by cases c <;> decide

/-! ## The four `KEYEXP` commands as one (R100, R140, R175, R190) -/

/-- The schedule a `KEYEXP` of cipher `c` computes from the state. -/
def scheduleOf (c : Cipher) (kw : Nat) (s : State) : List Word :=
  match c with
  | .aes => aesExpand kw s.keyWord (4 * (roundCount .aes kw + 1))
  | .des => desSchedule (s.keyWord 0) (s.keyWord 1)
  | .tdes => tdesSchedule s.keyWord
  | .bf => bfSchedule kw s.keyWord

/-- All a `KEYEXP` can do. -/
theorem exec_keyexpOf (c : Cipher) (kw : Nat) (s : State) :
    exec (keyexpOf c kw) s =
      if kw ∈ keySizes c then .next (installSchedule c kw (scheduleOf c kw s) s) else .next (s.raise .invalidKeySize) := by
  cases c
  · simp only [keyexpOf, exec, execKeyexpAes, keyexp, keySizes, scheduleOf]
    by_cases h : kw ∈ [4, 6, 8]
    · rw [if_pos h, if_pos (by simpa [or_assoc] using h)]
    · rw [if_neg h, if_neg (by simpa [or_assoc] using h)]
  · simp [keyexpOf, exec, execKeyexpDes, keyexp, keySizes, scheduleOf]
  · simp [keyexpOf, exec, execKeyexpTdes, keyexp, keySizes, scheduleOf]
  · simp only [keyexpOf, exec, execKeyexpBf, keyexp, keySizes, scheduleOf]
    by_cases h : 1 ≤ kw ∧ kw ≤ 14
    · rw [if_pos (by simpa using h), if_pos]
      obtain ⟨h1, h2⟩ := h
      interval_cases kw <;> decide
    · rw [if_neg (by simpa using h), if_neg]
      intro hm
      apply h
      simp only [List.mem_cons, List.not_mem_nil, or_false] at hm
      omega

/-! ## `INVKEY.AES` (R107, R110) -/

/-- All `INVKEY.AES` can do. -/
theorem exec_invkeyAes (s : State) :
    exec .invkeyAes s =
      if s.kstagFwd = true ∧ s.kstagCipher = Cipher.aes.code then
        .next { s.storeKsi (aesInverseSchedule s.kstagNr s.ksfWord) with kstag := kstagWithInv s.kstag }.succeed
      else .next (s.raise .scheduleNotReady) := by
  simp only [exec, execInvkeyAes]
  by_cases hf : s.kstagFwd = true <;> by_cases hc : s.kstagCipher = Cipher.aes.code <;> simp [hf, hc]

/-! ## Any command -/

/-- Every command is one of the four shapes. -/
theorem instr_cases (i : Instr) :
    (∃ c kw, i = keyexpOf c kw) ∨ i = .invkeyAes ∨ (∃ m c n, i = encOf m c n) ∨ (∃ m c n, i = decOf m c n) := by
  cases i
  case keyexpAes kw => exact .inl ⟨.aes, kw, rfl⟩
  case keyexpDes kw => exact .inl ⟨.des, kw, rfl⟩
  case keyexpTdes kw => exact .inl ⟨.tdes, kw, rfl⟩
  case keyexpBf kw => exact .inl ⟨.bf, kw, rfl⟩
  case invkeyAes => exact .inr (.inl rfl)
  case encEcbAes n => exact .inr (.inr (.inl ⟨.ecb, .aes, n, rfl⟩))
  case encEcbDes n => exact .inr (.inr (.inl ⟨.ecb, .des, n, rfl⟩))
  case encEcbTdes n => exact .inr (.inr (.inl ⟨.ecb, .tdes, n, rfl⟩))
  case encEcbBf n => exact .inr (.inr (.inl ⟨.ecb, .bf, n, rfl⟩))
  case decEcbAes n => exact .inr (.inr (.inr ⟨.ecb, .aes, n, rfl⟩))
  case decEcbDes n => exact .inr (.inr (.inr ⟨.ecb, .des, n, rfl⟩))
  case decEcbTdes n => exact .inr (.inr (.inr ⟨.ecb, .tdes, n, rfl⟩))
  case decEcbBf n => exact .inr (.inr (.inr ⟨.ecb, .bf, n, rfl⟩))
  case encCbcAes n => exact .inr (.inr (.inl ⟨.cbc, .aes, n, rfl⟩))
  case encCbcDes n => exact .inr (.inr (.inl ⟨.cbc, .des, n, rfl⟩))
  case encCbcTdes n => exact .inr (.inr (.inl ⟨.cbc, .tdes, n, rfl⟩))
  case encCbcBf n => exact .inr (.inr (.inl ⟨.cbc, .bf, n, rfl⟩))
  case decCbcAes n => exact .inr (.inr (.inr ⟨.cbc, .aes, n, rfl⟩))
  case decCbcDes n => exact .inr (.inr (.inr ⟨.cbc, .des, n, rfl⟩))
  case decCbcTdes n => exact .inr (.inr (.inr ⟨.cbc, .tdes, n, rfl⟩))
  case decCbcBf n => exact .inr (.inr (.inr ⟨.cbc, .bf, n, rfl⟩))
  case encCfbAes n => exact .inr (.inr (.inl ⟨.cfb, .aes, n, rfl⟩))
  case encCfbDes n => exact .inr (.inr (.inl ⟨.cfb, .des, n, rfl⟩))
  case encCfbTdes n => exact .inr (.inr (.inl ⟨.cfb, .tdes, n, rfl⟩))
  case encCfbBf n => exact .inr (.inr (.inl ⟨.cfb, .bf, n, rfl⟩))
  case decCfbAes n => exact .inr (.inr (.inr ⟨.cfb, .aes, n, rfl⟩))
  case decCfbDes n => exact .inr (.inr (.inr ⟨.cfb, .des, n, rfl⟩))
  case decCfbTdes n => exact .inr (.inr (.inr ⟨.cfb, .tdes, n, rfl⟩))
  case decCfbBf n => exact .inr (.inr (.inr ⟨.cfb, .bf, n, rfl⟩))
  case encOfbAes n => exact .inr (.inr (.inl ⟨.ofb, .aes, n, rfl⟩))
  case encOfbDes n => exact .inr (.inr (.inl ⟨.ofb, .des, n, rfl⟩))
  case encOfbTdes n => exact .inr (.inr (.inl ⟨.ofb, .tdes, n, rfl⟩))
  case encOfbBf n => exact .inr (.inr (.inl ⟨.ofb, .bf, n, rfl⟩))
  case decOfbAes n => exact .inr (.inr (.inr ⟨.ofb, .aes, n, rfl⟩))
  case decOfbDes n => exact .inr (.inr (.inr ⟨.ofb, .des, n, rfl⟩))
  case decOfbTdes n => exact .inr (.inr (.inr ⟨.ofb, .tdes, n, rfl⟩))
  case decOfbBf n => exact .inr (.inr (.inr ⟨.ofb, .bf, n, rfl⟩))
  case encCtrAes n => exact .inr (.inr (.inl ⟨.ctr, .aes, n, rfl⟩))
  case encCtrDes n => exact .inr (.inr (.inl ⟨.ctr, .des, n, rfl⟩))
  case encCtrTdes n => exact .inr (.inr (.inl ⟨.ctr, .tdes, n, rfl⟩))
  case encCtrBf n => exact .inr (.inr (.inl ⟨.ctr, .bf, n, rfl⟩))
  case decCtrAes n => exact .inr (.inr (.inr ⟨.ctr, .aes, n, rfl⟩))
  case decCtrDes n => exact .inr (.inr (.inr ⟨.ctr, .des, n, rfl⟩))
  case decCtrTdes n => exact .inr (.inr (.inr ⟨.ctr, .tdes, n, rfl⟩))
  case decCtrBf n => exact .inr (.inr (.inr ⟨.ctr, .bf, n, rfl⟩))

/-- All the next states a command can have: an error code and nothing else, a schedule installed, an inverse schedule
stored, or the blocks of an accepted mode command. -/
inductive ExecResult (s : State) : State → Prop where
  | raised (e : CommandError) : ExecResult s (s.raise e)
  | expanded (c : Cipher) (kw : Nat) (h : kw ∈ keySizes c) :
      ExecResult s (installSchedule c kw (scheduleOf c kw s) s)
  | inverted (hf : s.kstagFwd = true) (hc : s.kstagCipher = Cipher.aes.code) :
      ExecResult s { s.storeKsi (aesInverseSchedule s.kstagNr s.ksfWord) with kstag := kstagWithInv s.kstag }.succeed
  | processed (c : Cipher) (needInv : Bool) (step : BlockStep (blockWords c)) (n : Nat)
      (h : modeError c needInv n s = none) : ExecResult s (processBlocks step n s).succeed

/-- Every command answers one of those next states. -/
theorem exec_result (i : Instr) (s : State) : ∃ t, exec i s = .next t ∧ ExecResult s t := by
  rcases instr_cases i with ⟨c, kw, rfl⟩ | rfl | ⟨m, c, n, rfl⟩ | ⟨m, c, n, rfl⟩
  · rw [exec_keyexpOf]
    split
    · exact ⟨_, rfl, .expanded c kw ‹_›⟩
    · exact ⟨_, rfl, .raised _⟩
  · rw [exec_invkeyAes]
    split
    · rename_i h
      exact ⟨_, rfl, .inverted h.1 h.2⟩
    · exact ⟨_, rfl, .raised _⟩
  · rw [exec_encOf]
    rcases modeCommand_cases c false (encStep m (s.ef c)) n s with ⟨e, -, h⟩ | ⟨he, h⟩
    · exact ⟨_, h, .raised _⟩
    · exact ⟨_, h, .processed c _ _ n he⟩
  · rw [exec_decOf]
    rcases modeCommand_cases c (decNeedsInverse m c) (decStep m (s.ef c) (s.ei c)) n s with ⟨e, -, h⟩ | ⟨he, h⟩
    · exact ⟨_, h, .raised _⟩
    · exact ⟨_, h, .processed c _ _ n he⟩

theorem ExecResult.of_exec {i : Instr} {s t : State} (h : exec i s = .next t) : ExecResult s t := by
  obtain ⟨u, hu, hr⟩ := exec_result i s
  rw [hu] at h
  cases h
  exact hr

/-! ## The host's steps (R9) -/

theorem executeCommand_ok {v : Word} {i : Instr} (h : decode v = .ok i) (s : State) :
    executeCommand v s = exec i { s with cmd := v, response := .written } := by
  simp [executeCommand, h]

theorem executeCommand_error {v : Word} {e : CommandError} (h : decode v = .error e) (s : State) :
    executeCommand v s = .next (State.raise { s with cmd := v, response := .written } e) := by
  simp [executeCommand, h]

/-- Executing any word is a command's result on the state in which `CMD` holds the word. -/
theorem executeCommand_result (v : Word) (s : State) :
    ∃ t, executeCommand v s = .next t ∧ ExecResult { s with cmd := v, response := .written } t := by
  cases h : decode v with
  | ok i => rw [executeCommand_ok h]; exact exec_result i _
  | error e => rw [executeCommand_error h]; exact ⟨_, rfl, .raised e⟩

theorem step_idle {s : State} (h : s.requests = []) : step s = .next s := by simp [step, performNext, h]

theorem step_pending {s : State} {h : HostStep} {rest : List HostStep} (hr : s.requests = h :: rest) :
    step s = hostStep h { s with requests := rest } := by simp [step, performNext, hr]

/-- All a step can do. -/
theorem step_cases {s t : State} (h : step s = .next t) :
    t = s ∨ ∃ rest,
      t = resetEngine { s with requests := rest } ∨
      (∃ a, t = hostRead a { s with requests := rest }) ∨
      (∃ a v, a ≠ 0 ∧ t = hostWrite a v { s with requests := rest }) ∨
      (∃ v, ExecResult { s with requests := rest, cmd := v, response := .written } t) := by
  cases hr : s.requests with
  | nil =>
    rw [step_idle hr] at h
    cases h
    exact .inl rfl
  | cons q rest =>
    refine .inr ⟨rest, ?_⟩
    rw [step_pending hr] at h
    cases q with
    | reset => cases h; exact .inl rfl
    | read a => cases h; exact .inr (.inl ⟨a, rfl⟩)
    | write a v =>
      simp only [hostStep] at h
      split at h
      · obtain ⟨u, hu, he⟩ := executeCommand_result v { s with requests := rest }
        rw [hu] at h
        cases h
        exact .inr (.inr (.inr ⟨v, he⟩))
      · cases h
        exact .inr (.inr (.inl ⟨a, v, ‹_›, rfl⟩))

end Sys2Proof.Machine
end

