-- ==== Sys2Proof/Laws/Flags.lean ====
section
/-! SUPPORT. The fields of `KSTAG` (R23) as the commands leave them, and the numbers of the error codes (R301). -/

namespace Sys2Proof.Machine

/-! ## `KSTAG` after a `KEYEXP` and after `INVKEY.AES` -/

/-- Every supported key size: the tag is one of the ten values and its fields are the cipher, the round count, `FWD = 1`
and `INV = 0`. -/
theorem kstagWord_fields (c : Cipher) : ∀ kw ∈ keySizes c,
    kstagWord c (roundCount c kw) ∈ kstagValues ∧
      (kstagWord c (roundCount c kw)).extractLsb' 0 2 = c.code ∧
      ((kstagWord c (roundCount c kw)).extractLsb' 2 5).toNat = roundCount c kw ∧
      (kstagWord c (roundCount c kw)).getLsbD 8 = true ∧ (kstagWord c (roundCount c kw)).getLsbD 9 = false := by
  cases c <;> decide

theorem installSchedule_kstagLegal {c : Cipher} {kw : Nat} (ws : List Word) (s : State) (h : kw ∈ keySizes c) :
    (installSchedule c kw ws s).KstagLegal := (kstagWord_fields c kw h).1

theorem installSchedule_kstagCipher {c : Cipher} {kw : Nat} (ws : List Word) (s : State) (h : kw ∈ keySizes c) :
    (installSchedule c kw ws s).kstagCipher = c.code := (kstagWord_fields c kw h).2.1

theorem installSchedule_kstagNr {c : Cipher} {kw : Nat} (ws : List Word) (s : State) (h : kw ∈ keySizes c) :
    (installSchedule c kw ws s).kstagNr = roundCount c kw := (kstagWord_fields c kw h).2.2.1

theorem installSchedule_kstagFwd {c : Cipher} {kw : Nat} (ws : List Word) (s : State) (h : kw ∈ keySizes c) :
    (installSchedule c kw ws s).kstagFwd = true := (kstagWord_fields c kw h).2.2.2.1

theorem installSchedule_kstagInv {c : Cipher} {kw : Nat} (ws : List Word) (s : State) (h : kw ∈ keySizes c) :
    (installSchedule c kw ws s).kstagInv = false := (kstagWord_fields c kw h).2.2.2.2

/-- `INV <- 1` leaves the other fields (R110). -/
theorem kstagWithInv_fields (k : Word) :
    (kstagWithInv k).extractLsb' 0 2 = k.extractLsb' 0 2 ∧ (kstagWithInv k).extractLsb' 2 5 = k.extractLsb' 2 5 ∧
      (kstagWithInv k).getLsbD 8 = k.getLsbD 8 ∧ (kstagWithInv k).getLsbD 9 = true := by
  refine ⟨?_, ?_, ?_, ?_⟩
  · refine BitVec.eq_of_getLsbD_eq fun i hi => ?_
    interval_cases i <;> simp [kstagWithInv]
  · refine BitVec.eq_of_getLsbD_eq fun i hi => ?_
    interval_cases i <;> simp [kstagWithInv]
  · simp [kstagWithInv]
  · simp [kstagWithInv]

/-- A legal `KSTAG` that tags an AES schedule has 10, 12 or 14 rounds (R24). -/
theorem kstagNr_of_legal_aes {s : State} (hl : s.KstagLegal) (hr : s.Ready .aes) :
    s.kstagNr = 10 ∨ s.kstagNr = 12 ∨ s.kstagNr = 14 := by
  obtain ⟨hf, hc⟩ := hr
  simp only [State.KstagLegal, kstagValues] at hl
  simp only [State.kstagFwd, State.kstagCipher, State.kstagNr] at *
  generalize s.kstag = k at *
  simp only [List.mem_cons, List.not_mem_nil, or_false] at hl
  rcases hl with rfl | rfl | rfl | rfl | rfl | rfl | rfl | rfl | rfl | rfl <;> revert hf hc <;> decide

/-! ## Error codes -/

theorem statusWord_errorCode_toNat (e : CommandError) :
    1 ≤ (statusWord (errorCode e)).toNat ∧ (statusWord (errorCode e)).toNat ≤ 6 := by
  cases e <;> decide

end Sys2Proof.Machine
end

