-- ==== Sys2Proof/Laws/KeySchedules.lean ====
section
/-! SUPPORT. The key schedules: how many words each has, and the AES expansion and inverse schedule word by word. -/

namespace Sys2Proof.Machine

/-! ## AES expansion (R103) -/

@[simp] theorem length_aesExpand (nk : Nat) (key : Nat → Word) (n : Nat) : (aesExpand nk key n).length = n := by
  induction n with
  | zero => rfl
  | succ n ih => simp [aesExpand, ih]

/-- Word `i` does not depend on how far the expansion runs beyond it. -/
theorem getD_aesExpand_succ (nk : Nat) (key : Nat → Word) (n i : Nat) (h : i < n) :
    (aesExpand nk key (n + 1)).getD i 0 = (aesExpand nk key n).getD i 0 := by
  simp only [aesExpand, List.getD_eq_getElem?_getD]
  rw [List.getElem?_append_left (by simpa using h)]

theorem getD_aesExpand_of_le (nk : Nat) (key : Nat → Word) {m n i : Nat} (hi : i < m) (h : m ≤ n) :
    (aesExpand nk key n).getD i 0 = (aesExpand nk key m).getD i 0 := by
  induction n, h using Nat.le_induction with
  | base => rfl
  | succ n hn ih => rw [getD_aesExpand_succ _ _ _ _ (by omega), ih]

/-- The word the expansion appends. -/
theorem getD_aesExpand_last (nk : Nat) (key : Nat → Word) (n : Nat) :
    (aesExpand nk key (n + 1)).getD n 0 = aesExpandNext nk key (aesExpand nk key n) := by
  simp only [aesExpand, List.getD_eq_getElem?_getD]
  rw [List.getElem?_append_right (by simp)]
  simp

/-! ## AES inverse schedule (R109) -/

@[simp] theorem length_aesInverseRoundKey (nr : Nat) (ks : Nat → Word) (q : Nat) :
    (aesInverseRoundKey nr ks q).length = 4 := rfl

/-- Entry `4q + w` of a list of lists of four. -/
theorem getD_flatMap_four (f : Nat → List Word) (hf : ∀ q, (f q).length = 4) (m q w : Nat) (hq : q < m) (hw : w < 4) :
    ((List.range m).flatMap f).getD (4 * q + w) 0 = (f q).getD w 0 := by
  have key : ∀ m, ((List.range m).flatMap f).length = 4 * m := by
    intro m
    induction m with
    | zero => rfl
    | succ m ih => simp [List.range_succ, List.flatMap_append, ih, hf]; ring
  induction m with
  | zero => omega
  | succ m ih =>
    simp only [List.range_succ, List.flatMap_append, List.getD_eq_getElem?_getD] at ih ⊢
    by_cases h : q < m
    · rw [List.getElem?_append_left (by rw [key]; omega), ih h]
    · obtain rfl : q = m := by omega
      rw [List.getElem?_append_right (by rw [key]; omega), key, Nat.add_sub_cancel_left]
      simp

@[simp] theorem length_aesInverseSchedule (nr : Nat) (ks : Nat → Word) :
    (aesInverseSchedule nr ks).length = 4 * (nr + 1) := by
  simp [aesInverseSchedule, List.length_flatMap]; ring

/-- Word `4q + w` of the inverse schedule. -/
theorem getD_aesInverseSchedule (nr : Nat) (ks : Nat → Word) (q w : Nat) (hq : q ≤ nr) (hw : w < 4) :
    (aesInverseSchedule nr ks).getD (4 * q + w) 0 = (aesInverseRoundKey nr ks q).getD w 0 :=
  getD_flatMap_four _ (length_aesInverseRoundKey nr ks) _ _ _ (by omega) hw

/-! ## DES and Triple-DES (R145, R176) -/

@[simp] theorem length_desRoundSelectors (k0 k1 : Word) (r : Nat) : (desRoundSelectors k0 k1 r).length = 8 := by
  simp [desRoundSelectors]

@[simp] theorem length_desSchedule (k0 k1 : Word) : (desSchedule k0 k1).length = 128 := by
  simp [desSchedule, List.length_flatMap]

@[simp] theorem length_tdesSchedule (key : Nat → Word) : (tdesSchedule key).length = 384 := by simp [tdesSchedule]

/-! ## Blowfish (R191, R192) -/

@[simp] theorem length_bfInitialTables (kw : Nat) (key : Nat → Word) : (bfInitialTables kw key).length = 1042 := by
  simp [bfInitialTables, List.length_flatMap]

@[simp] theorem length_bfBootstrapStep (td : BfTables × Block 2) (j : Nat) :
    (bfBootstrapStep td j).1.length = td.1.length := by
  simp [bfBootstrapStep]

theorem length_bfBootstrap (order : List Nat) (td : BfTables × Block 2) :
    (order.foldl bfBootstrapStep td).1.length = td.1.length := by
  induction order generalizing td with
  | nil => rfl
  | cons j js ih => rw [List.foldl_cons, ih, length_bfBootstrapStep]

@[simp] theorem length_bfSchedule (kw : Nat) (key : Nat → Word) : (bfSchedule kw key).length = 1042 := by
  rw [bfSchedule, length_bfBootstrap]; simp

/-- The words the bootstrap overwrites are the even addresses of the schedule in order (R192, layout of R34). -/
theorem bfBootstrapOrder_eq : bfBootstrapOrder = (List.range 521).map (2 * ·) := by decide +kernel

end Sys2Proof.Machine
end

