-- ==== Sys2Proof/Laws/Memory.lean ====
section
/-! SUPPORT. The form of memory (`Memory.wf`: `DATA` has `DATA_WORDS` words) holds at reset, and every operation that
writes memory or `CONFIG`'s fellow elements keeps it. -/

namespace Sys2Proof.Machine

theorem wf_iff (s : State) : Memory.wf s = true ↔ s.data.length = s.dataWords := by simp [Memory.wf]

/-- The form depends on `DATA`'s length and on `CONFIG` alone. -/
theorem wf_congr {s t : State} (hd : t.data.length = s.data.length) (hc : t.config = s.config) :
    Memory.wf t = Memory.wf s := by
  simp [Memory.wf, hd, State.dataWords, hc]

theorem State.reset_wf : Memory.wf State.reset = true := by
  rw [wf_iff, State.reset_dataWords]
  simp [State.reset]

theorem resetEngine_wf (s : State) : Memory.wf (resetEngine s) = true := by
  rw [wf_iff, resetEngine_data_length]
  exact (dataWords_congr rfl).symm

theorem hostRead_wf {s : State} (a : Word) (h : Memory.wf s = true) : Memory.wf (hostRead a s) = true := by
  rcases hostRead_cases a s with ⟨w, -, hr⟩ | ⟨-, hr⟩ <;> rw [hr] <;> exact h

theorem hostWrite_wf {s : State} (a v : Word) (h : Memory.wf s = true) : Memory.wf (hostWrite a v s) = true := by
  rcases hostWrite_cases a v s with ⟨i, -, hw⟩ | ⟨i, -, hw⟩ | ⟨i, -, -, hw⟩ | hw <;> rw [hw]
  · exact h
  · exact h
  · rw [← h]; exact wf_congr (by simp) rfl
  · exact h

theorem processBlocks_wf {B : Nat} {s : State} (step : BlockStep B) (n : Nat) (hn : n ≤ s.dataWords)
    (h : Memory.wf s = true) : Memory.wf (processBlocks step n s) = true := by
  rw [← h]
  refine wf_congr (length_processBlocks step n s ?_) rfl
  rwa [(wf_iff s).mp h]

end Sys2Proof.Machine
end

