-- ==== Sys2Proof/Laws/PerInstr.lean ====
section
/-! SUPPORT. The family `RowMatch` of statements per instruction: the word of every command is a word of its own row of the
opcode map (30_encoding.md R80). -/

namespace Sys2Proof.Laws.RowMatch

/-- The encoding of the instruction matches its row's mask and match. -/
def Statement (i : Instr) : Prop := encode i &&& rowMask i = rowMatch i

/-- Masking off `NWORDS` leaves the word with `NWORDS = 0`. -/
theorem mask_nwords (op : BitVec 2) (c : BitVec 2) (m : BitVec 3) (kw n : Nat) :
    assembleWord op c m kw n &&& 0x0000ffff#32 = assembleWord op c m kw 0 := by
  refine BitVec.eq_of_getLsbD_eq fun b hb => ?_
  simp only [assembleWord, BitVec.getLsbD_and, BitVec.getLsbD_append]
  by_cases h : b < 16
  · have hm : (0x0000ffff#32).getLsbD b = true := by interval_cases b <;> rfl
    simp [h, hm]
  · have hm : (0x0000ffff#32).getLsbD b = false := by interval_cases b <;> rfl
    simp [h, hm]

/-- Masking off `KEYWORDS` leaves the word with `KEYWORDS = 0`. -/
theorem mask_keywords (op : BitVec 2) (c : BitVec 2) (m : BitVec 3) (kw : Nat) :
    assembleWord op c m kw 0 &&& 0xfffff0ff#32 = assembleWord op c m 0 0 := by
  refine BitVec.eq_of_getLsbD_eq fun b hb => ?_
  simp only [assembleWord, BitVec.getLsbD_and, BitVec.getLsbD_append]
  by_cases h : 8 ≤ b ∧ b < 12
  · have hm : (0xfffff0ff#32).getLsbD b = false := by obtain ⟨h1, h2⟩ := h; interval_cases b <;> rfl
    rw [hm, Bool.and_false]
    obtain ⟨h1, h2⟩ := h
    interval_cases b <;> simp
  · have hm : (0xfffff0ff#32).getLsbD b = true := by interval_cases b <;> first | rfl | omega
    rw [hm, Bool.and_true]
    interval_cases b <;> first | omega | simp

theorem keyexpAes (kw : Nat) : Statement (.keyexpAes kw) := (mask_keywords _ _ _ kw).trans rfl
theorem keyexpDes (kw : Nat) : Statement (.keyexpDes kw) := (mask_keywords _ _ _ kw).trans rfl
theorem keyexpTdes (kw : Nat) : Statement (.keyexpTdes kw) := (mask_keywords _ _ _ kw).trans rfl
theorem keyexpBf (kw : Nat) : Statement (.keyexpBf kw) := (mask_keywords _ _ _ kw).trans rfl
theorem invkeyAes : Statement .invkeyAes := rfl
theorem encEcbAes (n : Nat) : Statement (.encEcbAes n) := (mask_nwords _ _ _ 0 n).trans rfl
theorem encEcbDes (n : Nat) : Statement (.encEcbDes n) := (mask_nwords _ _ _ 0 n).trans rfl
theorem encEcbTdes (n : Nat) : Statement (.encEcbTdes n) := (mask_nwords _ _ _ 0 n).trans rfl
theorem encEcbBf (n : Nat) : Statement (.encEcbBf n) := (mask_nwords _ _ _ 0 n).trans rfl
theorem decEcbAes (n : Nat) : Statement (.decEcbAes n) := (mask_nwords _ _ _ 0 n).trans rfl
theorem decEcbDes (n : Nat) : Statement (.decEcbDes n) := (mask_nwords _ _ _ 0 n).trans rfl
theorem decEcbTdes (n : Nat) : Statement (.decEcbTdes n) := (mask_nwords _ _ _ 0 n).trans rfl
theorem decEcbBf (n : Nat) : Statement (.decEcbBf n) := (mask_nwords _ _ _ 0 n).trans rfl
theorem encCbcAes (n : Nat) : Statement (.encCbcAes n) := (mask_nwords _ _ _ 0 n).trans rfl
theorem encCbcDes (n : Nat) : Statement (.encCbcDes n) := (mask_nwords _ _ _ 0 n).trans rfl
theorem encCbcTdes (n : Nat) : Statement (.encCbcTdes n) := (mask_nwords _ _ _ 0 n).trans rfl
theorem encCbcBf (n : Nat) : Statement (.encCbcBf n) := (mask_nwords _ _ _ 0 n).trans rfl
theorem decCbcAes (n : Nat) : Statement (.decCbcAes n) := (mask_nwords _ _ _ 0 n).trans rfl
theorem decCbcDes (n : Nat) : Statement (.decCbcDes n) := (mask_nwords _ _ _ 0 n).trans rfl
theorem decCbcTdes (n : Nat) : Statement (.decCbcTdes n) := (mask_nwords _ _ _ 0 n).trans rfl
theorem decCbcBf (n : Nat) : Statement (.decCbcBf n) := (mask_nwords _ _ _ 0 n).trans rfl
theorem encCfbAes (n : Nat) : Statement (.encCfbAes n) := (mask_nwords _ _ _ 0 n).trans rfl
theorem encCfbDes (n : Nat) : Statement (.encCfbDes n) := (mask_nwords _ _ _ 0 n).trans rfl
theorem encCfbTdes (n : Nat) : Statement (.encCfbTdes n) := (mask_nwords _ _ _ 0 n).trans rfl
theorem encCfbBf (n : Nat) : Statement (.encCfbBf n) := (mask_nwords _ _ _ 0 n).trans rfl
theorem decCfbAes (n : Nat) : Statement (.decCfbAes n) := (mask_nwords _ _ _ 0 n).trans rfl
theorem decCfbDes (n : Nat) : Statement (.decCfbDes n) := (mask_nwords _ _ _ 0 n).trans rfl
theorem decCfbTdes (n : Nat) : Statement (.decCfbTdes n) := (mask_nwords _ _ _ 0 n).trans rfl
theorem decCfbBf (n : Nat) : Statement (.decCfbBf n) := (mask_nwords _ _ _ 0 n).trans rfl
theorem encOfbAes (n : Nat) : Statement (.encOfbAes n) := (mask_nwords _ _ _ 0 n).trans rfl
theorem encOfbDes (n : Nat) : Statement (.encOfbDes n) := (mask_nwords _ _ _ 0 n).trans rfl
theorem encOfbTdes (n : Nat) : Statement (.encOfbTdes n) := (mask_nwords _ _ _ 0 n).trans rfl
theorem encOfbBf (n : Nat) : Statement (.encOfbBf n) := (mask_nwords _ _ _ 0 n).trans rfl
theorem decOfbAes (n : Nat) : Statement (.decOfbAes n) := (mask_nwords _ _ _ 0 n).trans rfl
theorem decOfbDes (n : Nat) : Statement (.decOfbDes n) := (mask_nwords _ _ _ 0 n).trans rfl
theorem decOfbTdes (n : Nat) : Statement (.decOfbTdes n) := (mask_nwords _ _ _ 0 n).trans rfl
theorem decOfbBf (n : Nat) : Statement (.decOfbBf n) := (mask_nwords _ _ _ 0 n).trans rfl
theorem encCtrAes (n : Nat) : Statement (.encCtrAes n) := (mask_nwords _ _ _ 0 n).trans rfl
theorem encCtrDes (n : Nat) : Statement (.encCtrDes n) := (mask_nwords _ _ _ 0 n).trans rfl
theorem encCtrTdes (n : Nat) : Statement (.encCtrTdes n) := (mask_nwords _ _ _ 0 n).trans rfl
theorem encCtrBf (n : Nat) : Statement (.encCtrBf n) := (mask_nwords _ _ _ 0 n).trans rfl
theorem decCtrAes (n : Nat) : Statement (.decCtrAes n) := (mask_nwords _ _ _ 0 n).trans rfl
theorem decCtrDes (n : Nat) : Statement (.decCtrDes n) := (mask_nwords _ _ _ 0 n).trans rfl
theorem decCtrTdes (n : Nat) : Statement (.decCtrTdes n) := (mask_nwords _ _ _ 0 n).trans rfl
theorem decCtrBf (n : Nat) : Statement (.decCtrBf n) := (mask_nwords _ _ _ 0 n).trans rfl

end Sys2Proof.Laws.RowMatch
end

