-- ==== Sys2Proof/Laws/Tables.lean ====
section
/-! SUPPORT. Each transcribed table against its defining formula (48_tables_aes_des.md R260 to R279) or against the checks
the spec gives for it (49_tables_blowfish.md R296). The formulas are the spec's; the listings are the ones the engine
uses. -/

namespace Sys2Proof.Machine

set_option Elab.async false

/-! ## AES -/

/-- A product is linear in its second factor. -/
theorem gmulBits_xor (n : Nat) (a b c : Byte) : gmulBits n a (b ^^^ c) = gmulBits n a b ^^^ gmulBits n a c := by
  induction n generalizing a b c with
  | zero => simp [gmulBits]
  | succ n ih =>
    have head : (if (b ^^^ c).getLsbD 0 then a else 0) = (if b.getLsbD 0 then a else 0) ^^^ (if c.getLsbD 0 then a else 0) := by
      rw [BitVec.getLsbD_xor]
      cases b.getLsbD 0 <;> cases c.getLsbD 0 <;> simp
    simp only [gmulBits, head, BitVec.ushiftRight_xor_distrib, ih]
    ac_rfl

theorem gmul_xor (a b c : Byte) : gmul a (b ^^^ c) = gmul a b ^^^ gmul a c := gmulBits_xor 8 a b c

/-- Two maps that are linear over XOR and agree on the eight single bits agree on every byte. -/
theorem eq_of_xor_linear {f g : Byte → Byte} (hf : ∀ b c, f (b ^^^ c) = f b ^^^ f c)
    (hg : ∀ b c, g (b ^^^ c) = g b ^^^ g c) (h : ∀ i < 8, f ((1 : Byte) <<< i) = g ((1 : Byte) <<< i)) (d : Byte) : f d = g d := by
  have zero (k : Byte → Byte) (hk : ∀ b c, k (b ^^^ c) = k b ^^^ k c) : k 0 = 0 := by simpa using hk 0 0
  have bit (i : Nat) (hi : i < 8) :
      f (if d.getLsbD i then (1 : Byte) <<< i else 0) = g (if d.getLsbD i then (1 : Byte) <<< i else 0) := by
    split
    · exact h i hi
    · rw [zero f hf, zero g hg]
  have bits : ∀ d : Byte, d = (List.range 8).foldl (fun acc i => acc ^^^ if d.getLsbD i then (1 : Byte) <<< i else 0) 0 := by
    decide +kernel
  have fold (l : List Nat) (hl : ∀ i ∈ l, i < 8) (acc : Byte) (hacc : f acc = g acc) :
      f (l.foldl (fun acc i => acc ^^^ if d.getLsbD i then (1 : Byte) <<< i else 0) acc) =
        g (l.foldl (fun acc i => acc ^^^ if d.getLsbD i then (1 : Byte) <<< i else 0) acc) := by
    induction l generalizing acc with
    | nil => exact hacc
    | cons i l ih =>
      refine ih (fun j hj => hl j (List.mem_cons_of_mem i hj)) _ ?_
      rw [hf, hg, hacc, bit i (hl i List.mem_cons_self)]
  rw [bits d]
  exact fold _ (fun i hi => List.mem_range.mp hi) 0 (by rw [zero f hf, zero g hg])

/-- The inverse of the affine map `A` of R260, a working value of the next proofs. -/
def sboxAffineInv (b : Byte) : Byte := b.rotateLeft 1 ^^^ b.rotateLeft 3 ^^^ b.rotateLeft 6 ^^^ 0x05

theorem gmul_sboxAffineInv : ∀ x : Byte,
    (x ≠ 0 → gmul x (sboxAffineInv (sbox x)) = 1) ∧ sbox x = sboxAffine (sboxAffineInv (sbox x)) := by decide +kernel

/-- A nonzero byte divides no product but by the other factor being 0. -/
theorem gmul_eq_zero {a d : Byte} (ha : a ≠ 0) (h : gmul a d = 0) : d = 0 := by
  have single : ∀ a : Byte, a ≠ 0 → ∀ i < 8, gmul (sboxAffineInv (sbox a)) (gmul a ((1 : Byte) <<< i)) = (1 : Byte) <<< i := by
    decide +kernel
  have undo := eq_of_xor_linear (f := fun d => gmul (sboxAffineInv (sbox a)) (gmul a d)) (g := id)
    (fun b c => by simp only [gmul_xor]) (fun _ _ => rfl) (single a ha) d
  have zero : gmul (sboxAffineInv (sbox a)) 0 = 0 := by simpa using gmul_xor (sboxAffineInv (sbox a)) 0 0
  exact undo.symm.trans ((congrArg _ h).trans zero)

/-- R15: `ginv(0) = 0`. -/
@[simp] theorem ginv_zero : ginv 0 = 0 := by decide +kernel

/-- R15: `gmul(a, ginv(a)) = 1` for `a != 0`. -/
theorem gmul_ginv {a : Byte} (ha : a ≠ 0) : gmul a (ginv a) = 1 := by
  cases hf : ((List.range 256).map (BitVec.ofNat 8)).find? (fun b => gmul a b == 1) with
  | some b =>
    have found := List.find?_some hf
    rw [ginv, hf]
    exact beq_iff_eq.mp found
  | none =>
    have inverse := (gmul_sboxAffineInv a).1 ha
    have mem : sboxAffineInv (sbox a) ∈ (List.range 256).map (BitVec.ofNat 8) :=
      List.mem_map.mpr ⟨(sboxAffineInv (sbox a)).toNat, List.mem_range.mpr (BitVec.isLt _), BitVec.ofNat_toNat _ _⟩
    exact absurd inverse (by simpa using List.find?_eq_none.mp hf _ mem)

/-- R15: no other byte is the inverse, so `ginv` is "the b". -/
theorem eq_ginv {a b : Byte} (h : gmul a b = 1) : b = ginv a := by
  have ha : a ≠ 0 := by
    rintro rfl
    have zero : ∀ b : Byte, gmul 0 b ≠ 1 := by decide +kernel
    exact zero b h
  refine BitVec.xor_eq_zero_iff.mp (gmul_eq_zero ha ?_)
  rw [gmul_xor, h, gmul_ginv ha, BitVec.xor_self]
  rfl

/-- R260: `SBOX[x] = A(ginv(x))`. -/
theorem sbox_eq_affine_ginv (x : Byte) : sbox x = sboxAffine (ginv x) := by
  by_cases hx : x = 0
  · rw [hx, ginv_zero]
    decide +kernel
  · rw [← eq_ginv ((gmul_sboxAffineInv x).1 hx)]
    exact (gmul_sboxAffineInv x).2

/-- R261. -/
theorem invSbox_sbox : ∀ x : Byte, invSbox (sbox x) = x := by decide +kernel

theorem sbox_invSbox : ∀ y : Byte, sbox (invSbox y) = y := by decide +kernel

/-- R262. -/
theorem rcon_recurrence : rcon 0 = 0 ∧ rcon 1 = 1 ∧ ∀ j < 10, 1 ≤ j → rcon (j + 1) = xtime (rcon j) := by decide +kernel

/-- R263. -/
theorem subMix_eq : ∀ x : Byte,
    subMix 0 x = w4 (gmul (sbox x) 2) (sbox x) (sbox x) (gmul (sbox x) 3) ∧
    subMix 1 x = w4 (gmul (sbox x) 3) (gmul (sbox x) 2) (sbox x) (sbox x) ∧
    subMix 2 x = w4 (sbox x) (gmul (sbox x) 3) (gmul (sbox x) 2) (sbox x) ∧
    subMix 3 x = w4 (sbox x) (sbox x) (gmul (sbox x) 3) (gmul (sbox x) 2) := by decide +kernel

/-- R265. -/
theorem invSubMix_eq : ∀ y : Byte,
    invSubMix 0 y = w4 (gmul (invSbox y) 14) (gmul (invSbox y) 9) (gmul (invSbox y) 13) (gmul (invSbox y) 11) ∧
    invSubMix 1 y = w4 (gmul (invSbox y) 11) (gmul (invSbox y) 14) (gmul (invSbox y) 9) (gmul (invSbox y) 13) ∧
    invSubMix 2 y = w4 (gmul (invSbox y) 13) (gmul (invSbox y) 11) (gmul (invSbox y) 14) (gmul (invSbox y) 9) ∧
    invSubMix 3 y = w4 (gmul (invSbox y) 9) (gmul (invSbox y) 13) (gmul (invSbox y) 11) (gmul (invSbox y) 14) := by
  decide +kernel

/-! ## DES -/

/-- R271, R272, R273: the lengths and ranges of the tables. -/
theorem pc1_range : pc1.length = 56 ∧ pc1.Nodup ∧ ∀ j ∈ pc1, 1 ≤ j ∧ j ≤ 64 ∧ j % 8 ≠ 0 := by decide +kernel

theorem pc2_range : pc2.length = 48 ∧ pc2.Nodup ∧ (∀ j ∈ pc2.take 24, 1 ≤ j ∧ j ≤ 28) ∧
    ∀ j ∈ pc2.drop 24, 29 ≤ j ∧ j ≤ 56 := by decide +kernel

theorem desShifts_sum : desShifts.length = 16 ∧ desShifts.sum = 28 := by decide +kernel

/-- R275, R276: bit `p` (1..32) of `SP_i[v]` is bit `PPERM[p-1]` of the S-box output in nibble `i`. -/
theorem sp_eq_permuted_sbox : ∀ i < 8, ∀ v : BitVec 6, ∀ p < 32,
    (sp i v).getLsbD (31 - p) =
      ((desSbox i v).setWidth 32 <<< (28 - 4 * i)).getLsbD (32 - pperm.getD p 0) := by decide +kernel

/-- `SPMASK_i` (R275). -/
def spMask (i : Nat) : Word :=
  [0x00808202#32, 0x40084010#32, 0x04010104#32, 0x80401040#32,
   0x21040080#32, 0x10202008#32, 0x02100401#32, 0x08020820#32].getD i 0

/-- `SP_i[v]` has bits set only inside `SPMASK_i` (R275). -/
theorem sp_within_mask : ∀ i < 8, ∀ v : BitVec 6, sp i v &&& spMask i = sp i v := by decide +kernel

theorem spMask_disjoint : ∀ i < 8, ∀ j < 8, i ≠ j → spMask i &&& spMask j = 0 := by decide +kernel

/-- Two tables never set the same bit (R159, R275). -/
theorem sp_disjoint (i j : Nat) (hi : i < 8) (hj : j < 8) (hij : i ≠ j) (v w : BitVec 6) : sp i v &&& sp j w = 0 := by
  rw [← sp_within_mask i hi v, ← sp_within_mask j hj w]
  have := spMask_disjoint i hi j hj hij
  rw [BitVec.and_assoc, ← BitVec.and_assoc (spMask i), BitVec.and_comm (spMask i), BitVec.and_assoc (sp j w), this]
  simp

/-- R279: `FP` is the inverse of `IP`. -/
theorem desFp_desIp : ∀ j < 64, desIp.getD (desFp.getD j 0 - 1) 0 = j + 1 := by decide +kernel

/-- R278 against R159: entry `6i + j` of the expansion is bit `4i + j` in DES numbering, 0 read as 32 and 33 as 1. -/
theorem desExpansion_eq : ∀ i < 8, ∀ j < 6, desExpansion.getD (6 * i + j) 0 = (4 * i + j + 31) % 32 + 1 := by
  decide +kernel

/-! ## Blowfish -/

/-- All 1042 words of `BF_P0` and `BF_S0` in the order of R290. -/
def bfConstants : List Nat :=
  ((List.range 18).map fun i => (bfP0 i).toNat) ++
    (List.range 4).flatMap fun b => (List.range 256).map fun j => (bfS0 b j).toNat

/-- R296: the XOR and the sum of all 1042 words. -/
theorem bfConstants_checks : bfConstants.length = 1042 ∧ bfConstants.foldl (· ^^^ ·) 0 = 0x6ffa520a ∧
    bfConstants.sum % 2 ^ 32 = 0x6bbf03ac := by decide +kernel

end Sys2Proof.Machine
end

