-- ==== Sys2Proof/Tests/Slice0.lean ====
section
/-! SUPPORT. The model's own tests: ill-formed commands, decoding of words written out from the formats, known answers of
spec/95_test_vectors.md for single steps, and a witness for the hypotheses of every statement that has any. Expected
values come from the spec, never from the model. -/

namespace Sys2Proof.Tests

open Sys2Proof Sys2Proof.Machine

set_option Elab.async false

/-! ## Small states -/

/-- All zero, `DATA_WORDS = 16`. -/
def blank : State where
  cmd := 0
  status := 0
  kstag := 0
  config := 16
  key := Vector.replicate 14 0
  chain := Vector.replicate 4 0
  ksf := Vector.replicate 1042 0
  ksi := Vector.replicate 60 0
  data := List.replicate 16 0
  requests := []
  response := .idle
  resets := 0

/-- `blank` with key words. -/
def keyed (ws : List Word) : State := { blank with key := overlayVector ws blank.key }

/-- `blank` with a tag and all-zero schedules. -/
def tagged (k : Word) : State := { blank with kstag := k }

/-- `blank` with a tag, a schedule, the chain block and the data given. -/
def session (k : Word) (ksf chain data : List Word) : State :=
  { blank with kstag := k, ksf := overlayVector ksf blank.ksf, chain := overlayVector chain blank.chain,
               data := overlay data blank.data }

/-- `blank` with one pending host step. -/
def pending (h : HostStep) : State := { blank with requests := [h] }

/-- What `f` reads from the next state, if there is one. -/
def readNext {α : Type} (f : State → α) (o : Host.Outcome State Fault Refusal) : Option α :=
  match o with
  | .next t => some (f t)
  | .fault _ => none
  | .refused _ => none

/-- The outcome code and the first `n` words of `DATA` and the first two words of `CHAIN`. -/
def output (n : Nat) (t : State) : Word × List Word × List Word := (t.status, t.data.take n, t.chain.toList.take 2)

/-! ## WellFormed refuses an operand that does not fit its field (R72, R82) -/

theorem test_keywords_16_is_ill_formed : ¬ (Instr.keyexpAes 16).WellFormed ∧ ¬ (Instr.keyexpDes 16).WellFormed ∧
    ¬ (Instr.keyexpTdes 16).WellFormed ∧ ¬ (Instr.keyexpBf 16).WellFormed := by decide

theorem test_nwords_65536_is_ill_formed (m : Mode) (c : Cipher) :
    ¬ (encOf m c 65536).WellFormed ∧ ¬ (decOf m c 65536).WellFormed := by
  cases m <;> cases c <;> exact ⟨Nat.lt_irrefl _, Nat.lt_irrefl _⟩

theorem test_largest_operands_are_well_formed : (Instr.keyexpAes 15).WellFormed ∧ (Instr.encEcbAes 65535).WellFormed ∧
    Instr.invkeyAes.WellFormed := by decide

/-! ## Decoding: one word of every row, written out from R76 (fields NWORDS, reserved, KEYWORDS, reserved, MODE, CIPHER,
OP) -/

theorem test_decode_keyexp :
    decode 0b0000000000000000_0000_1000_0_000_00_00 = .ok (.keyexpAes 8) ∧
    decode 0b0000000000000000_0000_0010_0_000_01_00 = .ok (.keyexpDes 2) ∧
    decode 0b0000000000000000_0000_0110_0_000_10_00 = .ok (.keyexpTdes 6) ∧
    decode 0b0000000000000000_0000_1110_0_000_11_00 = .ok (.keyexpBf 14) := by decide

theorem test_decode_invkey :
    decode 0b0000000000000000_0000_0000_0_000_00_01 = .ok (.invkeyAes) := by decide

theorem test_decode_ecb :
    decode 0b0000000000001100_0000_0000_0_000_00_10 = .ok (.encEcbAes 12) ∧
    decode 0b0000000000000110_0000_0000_0_000_01_10 = .ok (.encEcbDes 6) ∧
    decode 0b0000000000000010_0000_0000_0_000_10_10 = .ok (.encEcbTdes 2) ∧
    decode 0b1010000000000001_0000_0000_0_000_11_10 = .ok (.encEcbBf 40961) ∧
    decode 0b0000000000001100_0000_0000_0_000_00_11 = .ok (.decEcbAes 12) ∧
    decode 0b0000000000000110_0000_0000_0_000_01_11 = .ok (.decEcbDes 6) ∧
    decode 0b0000000000000010_0000_0000_0_000_10_11 = .ok (.decEcbTdes 2) ∧
    decode 0b1010000000000001_0000_0000_0_000_11_11 = .ok (.decEcbBf 40961) := by decide

theorem test_decode_cbc :
    decode 0b0000000000001100_0000_0000_0_001_00_10 = .ok (.encCbcAes 12) ∧
    decode 0b0000000000000110_0000_0000_0_001_01_10 = .ok (.encCbcDes 6) ∧
    decode 0b0000000000000010_0000_0000_0_001_10_10 = .ok (.encCbcTdes 2) ∧
    decode 0b1010000000000001_0000_0000_0_001_11_10 = .ok (.encCbcBf 40961) ∧
    decode 0b0000000000001100_0000_0000_0_001_00_11 = .ok (.decCbcAes 12) ∧
    decode 0b0000000000000110_0000_0000_0_001_01_11 = .ok (.decCbcDes 6) ∧
    decode 0b0000000000000010_0000_0000_0_001_10_11 = .ok (.decCbcTdes 2) ∧
    decode 0b1010000000000001_0000_0000_0_001_11_11 = .ok (.decCbcBf 40961) := by decide

theorem test_decode_cfb :
    decode 0b0000000000001100_0000_0000_0_010_00_10 = .ok (.encCfbAes 12) ∧
    decode 0b0000000000000110_0000_0000_0_010_01_10 = .ok (.encCfbDes 6) ∧
    decode 0b0000000000000010_0000_0000_0_010_10_10 = .ok (.encCfbTdes 2) ∧
    decode 0b1010000000000001_0000_0000_0_010_11_10 = .ok (.encCfbBf 40961) ∧
    decode 0b0000000000001100_0000_0000_0_010_00_11 = .ok (.decCfbAes 12) ∧
    decode 0b0000000000000110_0000_0000_0_010_01_11 = .ok (.decCfbDes 6) ∧
    decode 0b0000000000000010_0000_0000_0_010_10_11 = .ok (.decCfbTdes 2) ∧
    decode 0b1010000000000001_0000_0000_0_010_11_11 = .ok (.decCfbBf 40961) := by decide

theorem test_decode_ofb :
    decode 0b0000000000001100_0000_0000_0_011_00_10 = .ok (.encOfbAes 12) ∧
    decode 0b0000000000000110_0000_0000_0_011_01_10 = .ok (.encOfbDes 6) ∧
    decode 0b0000000000000010_0000_0000_0_011_10_10 = .ok (.encOfbTdes 2) ∧
    decode 0b1010000000000001_0000_0000_0_011_11_10 = .ok (.encOfbBf 40961) ∧
    decode 0b0000000000001100_0000_0000_0_011_00_11 = .ok (.decOfbAes 12) ∧
    decode 0b0000000000000110_0000_0000_0_011_01_11 = .ok (.decOfbDes 6) ∧
    decode 0b0000000000000010_0000_0000_0_011_10_11 = .ok (.decOfbTdes 2) ∧
    decode 0b1010000000000001_0000_0000_0_011_11_11 = .ok (.decOfbBf 40961) := by decide

theorem test_decode_ctr :
    decode 0b0000000000001100_0000_0000_0_100_00_10 = .ok (.encCtrAes 12) ∧
    decode 0b0000000000000110_0000_0000_0_100_01_10 = .ok (.encCtrDes 6) ∧
    decode 0b0000000000000010_0000_0000_0_100_10_10 = .ok (.encCtrTdes 2) ∧
    decode 0b1010000000000001_0000_0000_0_100_11_10 = .ok (.encCtrBf 40961) ∧
    decode 0b0000000000001100_0000_0000_0_100_00_11 = .ok (.decCtrAes 12) ∧
    decode 0b0000000000000110_0000_0000_0_100_01_11 = .ok (.decCtrDes 6) ∧
    decode 0b0000000000000010_0000_0000_0_100_10_11 = .ok (.decCtrTdes 2) ∧
    decode 0b1010000000000001_0000_0000_0_100_11_11 = .ok (.decCtrBf 40961) := by decide

/-- Words of R78 and spec/95_test_vectors.md section 12 that are no command. -/
theorem test_decode_rejects :
    decode 0x00000480 = .error .illegalCommand ∧ decode 0x00001400 = .error .illegalCommand ∧
    decode 0x00010400 = .error .illegalCommand ∧ decode 0x00000410 = .error .illegalCommand ∧
    decode 0x00000005 = .error .illegalCommand ∧ decode 0x00000009 = .error .illegalCommand ∧
    decode 0x0000000D = .error .illegalCommand ∧ decode 0x00000401 = .error .illegalCommand ∧
    decode 0x00040102 = .error .illegalCommand ∧ decode 0x00040052 = .error .unsupportedMode ∧
    decode 0x00040063 = .error .unsupportedMode ∧ decode 0x0004017F = .error .illegalCommand := by decide

/-- The host's entry to the decoder: bits above the row's width are 0. -/
theorem test_decodeTableWord : decodeTableWord 32 0x00080013 = some (.decCbcAes 8) ∧
    decodeTableWord 32 0x00000005 = none ∧ decodeTableWord 16 0xFFFF0002 = some (.encEcbAes 0) := by decide

/-! ## Key commands: known answers of spec/95_test_vectors.md -/

set_option maxRecDepth 20000

/-- R105: the key 2b7e1516 28aed2a6 abf71588 09cf4f3c. -/
theorem test_keyexpAes :
    readNext (fun t => ([4, 5, 6, 7, 40, 41, 42, 43].map t.ksfWord, t.kstag, t.status))
      (exec (.keyexpAes 4) (keyed [0x2b7e1516, 0x28aed2a6, 0xabf71588, 0x09cf4f3c])) =
    some ([0xa0fafe17, 0x88542cb1, 0x23a33939, 0x2a6c7605, 0xd014f9a8, 0xc9ee2589, 0xe13f0cc8, 0xb6630ca6], 0x128, 0) := by
  decide +kernel

/-- R111: round keys 9 and 10 of the same key, and the single word of R111. -/
theorem test_invMixWord : invMixWord 0x62636363 = 0x6d6a6e68 ∧
    [0xac7766f3#32, 0x575c006e, 0x28d12941, 0x19fadc21].map invMixWord =
      [0x0c7b5a63, 0x664cfbb4, 0xb0398890, 0x1319eafe] := by decide +kernel

/-- R147: the key 13345779 9bbcdff1. -/
theorem test_keyexpDes :
    readNext (fun t => ([0, 1, 2, 3, 4, 5, 6, 7, 120, 121, 122, 123, 124, 125, 126, 127].map t.ksfWord, t.kstag))
      (exec (.keyexpDes 2) (keyed [0x13345779, 0x9bbcdff1])) =
    some ([0x06, 0x30, 0x0b, 0x2f, 0x3f, 0x07, 0x01, 0x32, 0x32, 0x33, 0x36, 0x0b, 0x03, 0x21, 0x1f, 0x35], 0x141) := by
  decide +kernel

/-- R147 with the key in the third place. -/
theorem test_keyexpTdes :
    readNext (fun t => ([0, 255, 256, 257, 258, 259, 383].map t.ksfWord, t.kstag))
      (exec (.keyexpTdes 6) (keyed [0, 0, 0, 0, 0x13345779, 0x9bbcdff1])) =
    some ([0x00, 0x00, 0x06, 0x30, 0x0b, 0x2f, 0x35], 0x142) := by
  decide +kernel

/-- R195: with the zero key the first two bootstrap steps give these blocks, and they land in words 0 to 3. -/
theorem test_bfBootstrapSteps :
    (bfBootstrapStep (bfBootstrapStep (bfInitialTables 2 fun _ => 0, #v[0, 0]) 0) 2).1.take 4 =
      [0x706d9fcc, 0x1792d23a, 0x2db9d714, 0x966e1439] := by decide +kernel

/-- R205. -/
theorem test_fBf : fBf bfS0 0 = 0x2fcff51e ∧ fBf bfS0 0x01020304 = 0x3cedff8c := by decide +kernel

/-- R15 and the entries of `SBOX` that R260 states: `SBOX[x] = A(ginv(x))`. -/
theorem test_ginv : ginv 0 = 0 ∧ [0x00#8, 0x01, 0x53, 0xff].map (fun x => sboxAffine (ginv x)) = [0x63, 0x7c, 0xed, 0x16] := by
  decide +kernel

/-! ## Block functions and modes: known answers of spec/95_test_vectors.md sections 4 to 10 -/

/-- The AES-128 schedule of a key. -/
def aes128 (key : List Word) : List Word := aesExpand 4 (fun i => key.getD i 0) 44

/-- The source's vector S1 (R124). -/
theorem test_encEcbAes :
    readNext (output 4) (exec (.encEcbAes 4) (session 0x128 (aes128 []) [] [])) =
    some (0, [0x66e94bd4, 0xef8a2c3b, 0x884cfa59, 0xca342b2e], [0, 0]) := by decide +kernel

/-- The source's vector S2 (R162) on the schedule of 13345779 9bbcdff1. -/
def desKeySchedule : List Word := desSchedule 0x13345779 0x9bbcdff1

theorem test_encEcbDes :
    readNext (output 2) (exec (.encEcbDes 2) (session 0x141 desKeySchedule [1, 2] [0x01234567, 0x89abcdef])) =
    some (0, [0x85e81354, 0x0f0ab405], [1, 2]) := by decide +kernel

/-- R182: three different keys, key 1 first. -/
def tdesKeySchedule : List Word :=
  desSchedule 0x01234567 0x89abcdef ++ desSchedule 0x23456789 0xabcdef01 ++ desSchedule 0x456789ab 0xcdef0123

theorem test_encEcbTdes :
    readNext (output 2) (exec (.encEcbTdes 2) (session 0x142 tdesKeySchedule [] [0x54686520, 0x71756663])) =
    some (0, [0xa826fd8c, 0xe53b855f], [0, 0]) := by decide +kernel

/-- R195: on the initial tables of the zero key the forward network of a zero block is the first bootstrap block. -/
theorem test_encEcbBf :
    readNext (output 2) (exec (.encEcbBf 2) (session 0x143 (bfInitialTables 2 fun _ => 0) [] [])) =
    some (0, [0x706d9fcc, 0x1792d23a], [0, 0]) := by decide +kernel

/-- The state of section 9.1 with the first two blocks of its input: key 2b7e1516 28aed2a6 abf71588 09cf4f3c, IV 00010203
04050607 08090a0b 0c0d0e0f. -/
def aesSession (needInv : Bool) : State :=
  let ks := aes128 [0x2b7e1516, 0x28aed2a6, 0xabf71588, 0x09cf4f3c]
  let s := session 0x128 ks [0x00010203, 0x04050607, 0x08090a0b, 0x0c0d0e0f] aesInput
  if needInv then { s with kstag := 0x328, ksi := overlayVector (aesInverseSchedule 10 fun i => ks.getD i 0) s.ksi } else s
where
  aesInput : List Word :=
    [0x6bc1bee2, 0x2e409f96, 0xe93d7e11, 0x7393172a, 0xae2d8a57, 0x1e03ac9c, 0x9eb76fac, 0x45af8e51]

/-- The outcome code, two blocks of `DATA` and all of `CHAIN`. -/
def twoBlocks (t : State) : Word × List Word × List Word := (t.status, t.data.take 8, t.chain.toList)

theorem test_encCbcAes : readNext twoBlocks (exec (.encCbcAes 8) (aesSession false)) =
    some (0, [0x7649abac, 0x8119b246, 0xcee98e9b, 0x12e9197d, 0x5086cb9b, 0x507219ee, 0x95db113a, 0x917678b2],
      [0x5086cb9b, 0x507219ee, 0x95db113a, 0x917678b2]) := by decide +kernel

theorem test_decEcbAes : readNext twoBlocks (exec (.decEcbAes 8) (aesSession true)) =
    some (0, [0x500594e2, 0x0d6d6c8c, 0x716b667c, 0x38f085f1, 0xfd2dc25a, 0x51ccf9f6, 0x4583c1ba, 0xce0ad1d0],
      [0x00010203, 0x04050607, 0x08090a0b, 0x0c0d0e0f]) := by decide +kernel

theorem test_decCbcAes : readNext twoBlocks (exec (.decCbcAes 8) (aesSession true)) =
    some (0, [0x500496e1, 0x09686a8b, 0x79626c77, 0x34fd8bfe, 0x96ec7cb8, 0x7f8c6660, 0xacbebfab, 0xbd99c6fa],
      [0xae2d8a57, 0x1e03ac9c, 0x9eb76fac, 0x45af8e51]) := by decide +kernel

theorem test_encCfbAes : readNext twoBlocks (exec (.encCfbAes 8) (aesSession false)) =
    some (0, [0x3b3fd92e, 0xb72dad20, 0x333449f8, 0xe83cfb4a, 0xc8a64537, 0xa0b3a93f, 0xcde3cdad, 0x9f1ce58b],
      [0xc8a64537, 0xa0b3a93f, 0xcde3cdad, 0x9f1ce58b]) := by decide +kernel

theorem test_decCfbAes : readNext twoBlocks (exec (.decCfbAes 8) (aesSession false)) =
    some (0, [0x3b3fd92e, 0xb72dad20, 0x333449f8, 0xe83cfb4a, 0x94faf1e3, 0x13799afc, 0x3629a55f, 0x61c961c6],
      [0xae2d8a57, 0x1e03ac9c, 0x9eb76fac, 0x45af8e51]) := by decide +kernel

/-- The chain block is the second keystream block, the XOR of the second input and output blocks of the table. -/
theorem test_encOfbAes : readNext twoBlocks (exec (.encOfbAes 8) (aesSession false)) =
    some (0, [0x3b3fd92e, 0xb72dad20, 0x333449f8, 0xe83cfb4a, 0x7789508d, 0x16918f03, 0xf53c52da, 0xc54ed825],
      [0xd9a4dada, 0x0892239f, 0x6b8b3d76, 0x80e15674]) := by decide +kernel

theorem test_decCtrAes : readNext twoBlocks (exec (.decCtrAes 8) (aesSession false)) =
    some (0, [0x3b3fd92e, 0xb72dad20, 0x333449f8, 0xe83cfb4a, 0x010c0419, 0x99e03f36, 0x44862448, 0x3e582d0e],
      [0x00010203, 0x04050607, 0x08090a0b, 0x0c0d0e11]) := by decide +kernel

/-- Section 9.2, one block. -/
theorem test_decEcbDes :
    readNext (output 2) (exec (.decEcbDes 2) (session 0x141 desKeySchedule [] [0x4e6f7720, 0x69732074])) =
    some (0, [0xc73b7c4c, 0x6e60247f], [0, 0]) := by decide +kernel

/-- V10.3a: the counter wraps without a carry. -/
theorem test_encCtrAes_wraps :
    readNext twoBlocks (exec (.encCtrAes 8)
      { aesSession false with chain := #v[0x11111111, 0x22222222, 0x33333333, 0xffffffff], data := List.replicate 8 0 }) =
    some (0, [0xeb7c53e9, 0x8dbe0e02, 0x0a6623cf, 0x8396efcd, 0xbf2bed9a, 0x086c43a8, 0x1557174d, 0x72956937],
      [0x11111111, 0x22222222, 0x33333333, 0x00000001]) := by decide +kernel

/-! ## Errors and the bus: spec/95_test_vectors.md sections 11 and 13 -/

/-- `STATUS` after a command word on a state. -/
def statusAfter (v : Word) (s : State) : Option Word := readNext State.status (executeCommand v s)

/-- One word for each check of R305 in order, on a DES schedule with `DATA_WORDS = 16`. -/
theorem test_error_priority :
    statusAfter 0x00000480 (tagged 0x141) = some 6 ∧ statusAfter 0x00120106 (tagged 0x141) = some 6 ∧
    statusAfter 0x00030056 (tagged 0) = some 2 ∧ statusAfter 0x00000304 (tagged 0x141) = some 1 ∧
    statusAfter 0x00030006 (tagged 0) = some 5 ∧ statusAfter 0x0002000a (tagged 0x141) = some 5 ∧
    statusAfter 0x00130006 (tagged 0x141) = some 3 ∧ statusAfter 0x00120006 (tagged 0x141) = some 4 ∧
    statusAfter 0x00000006 (tagged 0x141) = some 0 ∧ statusAfter 0x00000001 (tagged 0x141) = some 5 ∧
    statusAfter 0x00000003 (tagged 0x128) = some 5 ∧ statusAfter 0x00000003 (tagged 0x328) = some 0 := by
  decide +kernel

/-- A command from the state right after reset runs as the first thing the host does (R332). -/
theorem test_first_command_after_reset :
    readNext (fun t => (t.cmd, t.status, t.response)) (step (State.reset.withFetchWord 32 0x00040002)) =
      some (0x00040002, 5, .written) := by decide +kernel

/-- Both ends of every range of R51, and the addresses beside them. -/
theorem test_address_map :
    [0x0, 0x3, 0x4, 0xF, 0x10, 0x1D, 0x1E, 0x1F, 0x20, 0x23, 0x24].map (addressMap 16) =
      [some .cmd, some .config, none, none, some (.key 0), some (.key 13), none, none, some (.chain 0), some (.chain 3),
        none] ∧
    [0x3FF, 0x400, 0x811, 0x812, 0xBFF, 0xC00, 0xC3B, 0xC3C, 0xFFFF, 0x10000, 0x1000F, 0x10010, 0xFFFFFFFF].map
      (addressMap 16) =
      [none, some (.ksf 0), some (.ksf 1041), none, none, some (.ksi 0), some (.ksi 59), none, none, some (.data 0),
        some (.data 15), none, none] := by decide +kernel

theorem test_write_of_status_is_a_bus_error :
    readNext (fun t => (t.response, t.status)) (step (pending (.write 1 5))) = some (.busError, 0) := by decide +kernel

/-! ## Witnesses: each statement's hypotheses are met by concrete states and operands -/

theorem witness_DecodeOfEncode : (Instr.keyexpBf 15).WellFormed ∧ (Instr.decCtrBf 65535).WellFormed := by decide

theorem witness_EncodeOfDecode : decode 0xFFFF004F = .ok (.decCtrBf 65535) ∧ decode 0x00000F00 = .ok (.keyexpAes 15) := by
  decide

theorem witness_EncodingFields : 15 < 16 ∧ 65535 < 65536 := by decide

theorem witness_OpcodeMapRows :
    (0x00000F0C : Word) &&& 0xFFFFF0FF = Cipher.bf.code.setWidth 32 <<< 2 ∧ (0x00000001 : Word) &&& 0xFFFFFFFF = 1 ∧
    (0xFFFF004E : Word) &&& 0x0000FFFF = 0x02 ||| Cipher.bf.code.setWidth 32 <<< 2 ||| Mode.ctr.code.setWidth 32 <<< 4 ∧
    (0x00000003 : Word) &&& 0x0000FFFF = 0x03 ||| Cipher.aes.code.setWidth 32 <<< 2 ||| Mode.ecb.code.setWidth 32 <<< 4 ∧
    decode 0x00000001 = .ok .invkeyAes := by decide

theorem witness_UndefinedWordsAreRefused :
    (bitsOf 0x00000080 7 1 ≠ 0 ∧ bitsOf 0x00008000 12 4 ≠ 0) ∧
    (bitsOf 0x00000070 0 2 = 0 ∧ bitsOf 0x00000070 4 3 ≠ 0 ∧ bitsOf 0xFFFF0000 0 2 = 0 ∧ bitsOf 0xFFFF0000 16 16 ≠ 0) ∧
    (bitsOf 0x00000F01 0 2 = 1 ∧ bitsOf 0x00000F01 8 4 ≠ 0) ∧ (bitsOf 0x0000000D 0 2 = 1 ∧ bitsOf 0x0000000D 2 2 ≠ 0) ∧
    (2 ≤ bitsOf 0x00000102 0 2 ∧ bitsOf 0x00000102 8 4 ≠ 0) ∧
    (2 ≤ bitsOf 0x00000053 0 2 ∧ 5 ≤ bitsOf 0x00000053 4 3 ∧ bitsOf 0x00000053 7 1 = 0 ∧ bitsOf 0x00000053 12 4 = 0 ∧
      bitsOf 0x00000053 8 4 = 0) := by decide

/-- The last clause: a word outside every row. -/
theorem witness_UndefinedWordsAreRefused_no_row : ∀ i : Instr, (0x00000080 : Word) &&& rowMask i ≠ rowMatch i := by
  intro i h
  have hi : (rowMask i)[7] = true ∧ (rowMatch i)[7] = false := by
    cases i <;> simp [rowMask, rowMatch]
  have h7 := congrArg (·.getLsbD 7) h
  simp [hi] at h7

theorem witness_StepRunsDecodedCommand :
    (pending (.write 0 0x00000400)).requests = .write 0 0x00000400 :: [] ∧ decode 0x00000400 = .ok (.keyexpAes 4) := by
  decide

/-- Boundary addresses of every clause on a state whose next host step reads them. -/
theorem witness_HostReadStep :
    (∀ a, (pending (.read a)).requests = .read a :: []) ∧ 13 < 14 ∧ (0x1D : Word).toNat = 0x10 + 13 ∧
    (0x23 : Word).toNat = 0x20 + 3 ∧ (0x811 : Word).toNat = 0x400 + 1041 ∧ (0xC3B : Word).toNat = 0xC00 + 59 ∧
    15 < blank.dataWords ∧ (0x1000F : Word).toNat = 0x10000 + 15 ∧
    [0x4, 0xF, 0x1E, 0x1F, 0x24, 0x3FF, 0x812, 0xBFF, 0xC3C, 0xFFFF, 0x10010].all (fun a => decide (blank.Unmapped a)) = true ∧
    [0x0, 0x3, 0x10, 0x1D, 0x20, 0x23, 0x400, 0x811, 0xC00, 0xC3B, 0x10000, 0x1000F].all (fun a => decide (¬ blank.Unmapped a)) = true := by
  refine ⟨fun _ => rfl, ?_⟩
  decide

theorem witness_HostWriteStep :
    (∀ a, (pending (.write a 7)).requests = .write a 7 :: []) ∧ (0x10 : Word).toNat = 0x10 + 0 ∧
    (0x20 : Word).toNat = 0x20 + 0 ∧ 0 < blank.dataWords ∧ (0x10000 : Word).toNat = 0x10000 + 0 ∧
    [0x1, 0x3, 0x400, 0x811, 0xC00, 0xC3B].all (fun a => decide (ReadOnlyAddress a)) = true ∧
    [0x0, 0x10, 0x1D, 0x20, 0x23, 0x10000, 0x1000F].all (fun a => decide (¬ ReadOnlyAddress a ∧ ¬ blank.Unmapped a)) = true ∧
    blank.Unmapped 0xFFFFFFFF := by
  refine ⟨fun _ => rfl, ?_⟩
  decide

theorem witness_BusErrorChangesNothing :
    (pending (.read 4)).requests = .read 4 :: [] ∧
      step (pending (.read 4)) = .next { blank with response := .busError } := ⟨rfl, rfl⟩

theorem witness_ResetStep : (pending .reset).requests = .reset :: [] := rfl

theorem witness_AfterResetAsHostSees : blank.ConfigLegal ∧ resetEngine blank = resetEngine blank := ⟨by decide, rfl⟩

theorem witness_ReadAfterWrite :
    let s := { blank with requests := [.write 0x1000F 7, .read 0x1000F] }
    Memory.wf s = true ∧ s.requests = .write 0x1000F 7 :: .read 0x1000F :: [] ∧ (0x1000F : Word) ≠ 0 ∧
      ¬ ReadOnlyAddress 0x1000F ∧ ¬ s.Unmapped 0x1000F := by decide +kernel

theorem witness_IdleStepHolds : blank.requests = [] := rfl

theorem witness_KstagInvariant : (∀ k ∈ kstagValues, (tagged k).KstagLegal) ∧ step (tagged 0x328) = .next (tagged 0x328) :=
  ⟨fun _ h => h, rfl⟩

/-- Every legal tag in a legal state. -/
theorem witness_LegalStatesStayLegal : (∀ k ∈ kstagValues, (tagged k).Legal) ∧ step (tagged 0x143) = .next (tagged 0x143) :=
  ⟨fun _ h => ⟨h, Nat.zero_le _, (by decide : blank.ConfigLegal), (by decide : Memory.wf blank = true)⟩, rfl⟩

/-- The all-zero inverse schedule is the one of the all-zero schedule. -/
theorem ksiInverse_of_zero_schedule : (tagged 0x328).KsiInverseOfKsf := by
  have h : ∀ j < 44, (tagged 0x328).ksiWord j = (aesInverseSchedule 10 (tagged 0x328).ksfWord).getD j 0 := by
    decide +kernel
  exact h

theorem witness_InverseTagStaysSound : (tagged 0x328).KstagLegal ∧ (tagged 0x328).InvTagSound ∧
    (tagged 0x328).kstagInv = true ∧ step (tagged 0x328) = .next (tagged 0x328) :=
  ⟨by decide, fun _ => ksiInverse_of_zero_schedule, by decide, rfl⟩

/-- Each clause: a step that changes the element. -/
theorem witness_WritersOfState :
    readNext (fun t => (t.cmd, t.status)) (step (pending (.write 0 0x00000001))) = some (1, 5) ∧
    readNext (fun t => (t.kstag, t.ksfWord 0))
      (step { pending (.write 0 0x00000204) with key := Vector.replicate 14 0xFFFFFFFF }) = some (0x141, 0x3F) ∧
    readNext (fun t => t.keyWord 13) (step (pending (.write 0x1D 7))) = some 7 ∧
    readNext (fun t => t.chainWord 3) (step (pending (.write 0x23 7))) = some 7 ∧
    readNext (fun t => t.dataWord 15) (step (pending (.write 0x1000F 7))) = some 7 ∧
    readNext (fun t => t.ksiWord 0)
      (step { pending (.write 0 0x00000001) with kstag := 0x128, ksf := Vector.replicate 1042 1 }) = some 1 := by
  decide +kernel

theorem witness_ModeCommandsKeepSchedulesAndKey :
    exec (encOf .ecb .des 0) blank = .next { blank with status := 5 } ∧
      exec (decOf .ctr .bf 3) (tagged 0x143) = .next { tagged 0x143 with status := 3 } := ⟨rfl, rfl⟩

theorem witness_RefusedCommandChangesOnlyStatus :
    executeCommand 0x00000080 blank = .next { blank with cmd := 0x00000080, status := 6, response := .written } ∧
      (6 : Word) ≠ 0 := ⟨rfl, by decide⟩

theorem witness_ErrorsAreNotSticky :
    executeCommand 0x00000080 (tagged 0x141) =
        .next { tagged 0x141 with cmd := 0x00000080, status := 6, response := .written } ∧
      executeCommand 0x00040006 { tagged 0x141 with status := 6 } = executeCommand 0x00040006 (tagged 0x141) := ⟨rfl, rfl⟩

theorem witness_KeyexpAesExpandsKey (kw : Nat) (h : kw ∈ [4, 6, 8]) : kw = 4 ∨ kw = 6 ∨ kw = 8 := by simpa using h

theorem witness_UnsupportedKeySizeIsRefused : 0 ∉ keySizes .aes ∧ 15 ∉ keySizes .aes ∧ 1 ∉ keySizes .des ∧
    15 ∉ keySizes .tdes ∧ 0 ∉ keySizes .bf ∧ 15 ∉ keySizes .bf ∧ 15 < 16 := by decide

theorem witness_InvkeyAesWritesInverseSchedule :
    [0x128, 0x130, 0x138, 0x328].all (fun k => decide ((tagged k).KstagLegal ∧ (tagged k).Ready .aes)) = true ∧ ¬ blank.Ready .aes ∧
      ¬ (tagged 0x141).Ready .aes := by decide +kernel

theorem witness_DesParityBitsAreIgnored : ∀ i < 2,
    (keyed [0x12345678, 0x9ABCDEF0]).key.toList.getD i 0 &&& 0xFEFEFEFE =
      (keyed [0x13345779, 0x9BBCDFF1]).keyWord i &&& 0xFEFEFEFE := by decide

theorem witness_KeyexpBfBootstrapsTables : (1 ≤ 1 ∧ 1 ≤ 14) ∧ (1 ≤ 14 ∧ 14 ≤ 14) := by decide

theorem witness_KeyWordsBeyondKeySizeAreIgnored :
    (∀ i < 4, (keyed [1, 2, 3, 4, 5]).key.toList.getD i 0 = (keyed [1, 2, 3, 4]).keyWord i) ∧
      ∃ t, exec (keyexpOf .aes 4) (keyed [1, 2, 3, 4]) = .next t := ⟨by decide, (exec_result _ _).imp fun _ h => h.1⟩

theorem witness_BfScheduleDependsOnCyclicKey :
    ∀ i < 18, (keyed [7, 7]).key.toList.getD (i % 2) 0 = (keyed [7]).keyWord (i % 1) := by decide

theorem witness_StaleInverseScheduleIsRefused : 8 ∈ keySizes .aes ∧ 14 ∈ keySizes .bf := by decide

theorem witness_AesForwardIsPublishedCipher : [0x128, 0x130, 0x138, 0x338].all (fun k =>
    decide ((tagged k).KstagLegal ∧ (tagged k).Ready .aes)) = true := by decide +kernel

theorem witness_AesRoundTrip : (tagged 0x328).KstagLegal ∧ (tagged 0x328).Ready .aes ∧ (tagged 0x328).KsiInverseOfKsf ∧
    ∃ t, exec .invkeyAes (tagged 0x328) = .next t :=
  ⟨by decide, by decide, ksiInverse_of_zero_schedule, (exec_result _ _).imp fun _ h => h.1⟩

/-- Halves that follow the rounds exist for every selector array, block and order of rounds. -/
theorem witness_DesNetworkRounds (S : Nat → Nat → BitVec 6) (b : Block 2) (order : Nat → Nat) :
    ∃ l r : Nat → Word, (l 0, r 0) = desInitialPermutation (b[0], b[1]) ∧
      ∀ i < 16, l (i + 1) = r i ∧ r (i + 1) = l i ^^^ fDes (r i) (S (order i)) :=
  let lr : Nat → Word × Word := Nat.rec (desInitialPermutation (b[0], b[1])) fun i p => desRound (S (order i)) p
  ⟨fun i => (lr i).1, fun i => (lr i).2, rfl, fun _ _ => ⟨rfl, rfl⟩⟩

/-- Halves that follow the rounds exist for every P-array, boxes, block and order of entries. -/
theorem witness_BfNetworkRounds (P : Nat → Word) (S : Nat → Nat → Word) (b : Block 2) (order : Nat → Nat) :
    ∃ l r : Nat → Word, l 0 = b[0] ∧ r 0 = b[1] ∧
      ∀ i < 16, r (i + 1) = l i ^^^ P (order i) ∧ l (i + 1) = r i ^^^ fBf S (l i ^^^ P (order i)) :=
  let lr : Nat → Word × Word := Nat.rec (b[0], b[1]) fun i p => bfRound S (P (order i)) p
  ⟨fun i => (lr i).1, fun i => (lr i).2, rfl, rfl, fun _ _ => ⟨rfl, rfl⟩⟩

theorem witness_TdesDegeneratesToDes :
    let s := keyed [1, 2, 1, 2, 1, 2]
    (∃ t, exec (.keyexpTdes 6) s = .next t) ∧ (∃ u, exec (.keyexpDes 2) s = .next u) ∧ s.keyWord 0 = s.keyWord 2 ∧
      s.keyWord 1 = s.keyWord 3 ∧ s.keyWord 0 = s.keyWord 4 ∧ s.keyWord 1 = s.keyWord 5 :=
  ⟨(exec_result _ _).imp fun _ h => h.1, (exec_result _ _).imp fun _ h => h.1, by decide⟩

/-- A tag for each cipher; AES with its inverse schedule. -/
def tagOf (c : Cipher) : Word :=
  match c with
  | .aes => 0x328
  | .des => 0x141
  | .tdes => 0x142
  | .bf => 0x143

/-- The hypotheses of every mode statement, at no block and at the whole of `DATA`, for each cipher. -/
theorem witness_mode_commands (c : Cipher) (needInv : Bool) (h : needInv = true → c = .aes) :
    Memory.wf (tagged (tagOf c)) = true ∧ (tagged (tagOf c)).Accepts c needInv 0 ∧
      (tagged (tagOf c)).Accepts c needInv 16 := by
  revert h
  cases c <;> cases needInv <;> decide

/-- The AES forward schedule alone is enough where no inverse schedule is needed. -/
theorem witness_forward_schedule_only : (tagged 0x128).Accepts .aes false 16 ∧ (tagged 0x128).kstagInv = false := by decide

theorem witness_EncryptEcb (c : Cipher) : Memory.wf (tagged (tagOf c)) = true ∧ (tagged (tagOf c)).Accepts c false 16 :=
  (witness_mode_commands c false Bool.noConfusion).imp id And.right
theorem witness_DecryptEcb (c : Cipher) :
    Memory.wf (tagged (tagOf c)) = true ∧ (tagged (tagOf c)).Accepts c (c == .aes) 16 ∧ blank.kstagInv = false :=
  by
  cases c <;> decide
theorem witness_EncryptCbc (c : Cipher) : Memory.wf (tagged (tagOf c)) = true ∧ (tagged (tagOf c)).Accepts c false 16 :=
  witness_EncryptEcb c
theorem witness_DecryptCbc (c : Cipher) :
    Memory.wf (tagged (tagOf c)) = true ∧ (tagged (tagOf c)).Accepts c (c == .aes) 16 ∧ blank.kstagInv = false :=
  witness_DecryptEcb c
theorem witness_EncryptCfb (c : Cipher) : Memory.wf (tagged (tagOf c)) = true ∧ (tagged (tagOf c)).Accepts c false 16 :=
  witness_EncryptEcb c
theorem witness_DecryptCfb (c : Cipher) : Memory.wf (tagged (tagOf c)) = true ∧ (tagged (tagOf c)).Accepts c false 16 :=
  witness_EncryptEcb c
theorem witness_OfbBothDirections (c : Cipher) :
    Memory.wf (tagged (tagOf c)) = true ∧ (tagged (tagOf c)).Accepts c false 16 := witness_EncryptEcb c
theorem witness_CtrBothDirections (c : Cipher) :
    Memory.wf (tagged (tagOf c)) = true ∧ (tagged (tagOf c)).Accepts c false 16 := witness_EncryptEcb c

theorem witness_Resumption (c : Cipher) (m : Mode) (decrypting : Bool) :
    let s := tagged (tagOf c)
    let d := List.replicate 16 (0 : Word)
    Memory.wf s = true ∧ s.Accepts c (decrypting && decNeedsInverse m c) (8 + 8) ∧ 8 % blockWords c = 0 ∧
      d.length = s.data.length ∧ ∀ i < 8, d.getD i 0 = s.dataWord (8 + i) := by
  cases c <;> cases m <;> cases decrypting <;> decide

theorem witness_DecryptInvertsEncrypt :
    Memory.wf (tagged 0x328) = true ∧ (tagged 0x328).KstagLegal ∧ (tagged 0x328).InvTagSound ∧
      (tagged 0x328).Accepts .aes (decNeedsInverse .cbc .aes) 16 :=
  ⟨by decide, by decide, fun _ => ksiInverse_of_zero_schedule, by decide⟩

/-- A changed first block and a changed last block of four. -/
theorem witness_ErrorPropagation :
    let s := tagged 0x328
    Memory.wf s = true ∧ s.Accepts .aes (decNeedsInverse .cbc .aes) 16 ∧ 0 < 16 / blockWords .aes ∧
      3 < 16 / blockWords .aes ∧ (overlay [1] s.data).length = s.data.length ∧
      (∀ j < 16, j / 4 ≠ 0 → (overlay [1] s.data).getD j 0 = s.dataWord j) ∧
      (s.data.set 15 1).length = s.data.length ∧
      (∀ j < 16, j / 4 ≠ 3 → (s.data.set 15 1).getD j 0 = s.dataWord j) := by decide

/-- Schedules that differ in the first word their cipher does not occupy. -/
theorem witness_UnspecifiedScheduleWordsAreNotRead :
    let s := tagged 0x128
    s.KstagLegal ∧ s.Ready .aes ∧
      (∀ j < scheduleWords .aes s.kstagNr, (s.ksf.set 44 1).toList.getD j 0 = s.ksfWord j) ∧ s.kstagInv = false ∧
      (s.ksf.set 44 1).toList.getD 44 0 ≠ s.ksfWord 44 := by decide +kernel

theorem witness_KeyRegistersDoNotAffectModeCommands :
    (∀ c kw, Instr.encEcbAes 4 ≠ keyexpOf c kw) ∧ (∀ c kw, Instr.invkeyAes ≠ keyexpOf c kw) ∧
      ∃ t, exec (.encEcbAes 4) blank = .next t := by
  refine ⟨fun c kw => ?_, fun c kw => ?_, (exec_result _ _).imp fun _ h => h.1⟩ <;> cases c <;> simp [keyexpOf]

end Sys2Proof.Tests
end

section
/-! PROOFS. The scope of the engine (00_scope.md): the power-on state is legal (R12, R24, R27, R28, R40), and every
command and every step of the host answers a next state (R9, R55, R71, R300, R319). -/

namespace Sys2Proof.Machine

/-! ## The power-on state -/

/-- The least `DATA_WORDS` (R12). -/
theorem four_le_dataWords : 4 ≤ Config.dataWords := Nat.le_add_right 4 _

/-- The greatest `DATA_WORDS` (R12). -/
theorem dataWords_le : Config.dataWords ≤ 65535 := by
  have := Config.dataWordsAboveFour.isLt
  simp only [Config.dataWords]
  omega

/-- `DATA_WORDS` fits the 32 bits of `CONFIG` (R28). -/
theorem State.reset_config_toNat : State.reset.config.toNat = Config.dataWords :=
  (BitVec.toNat_ofNat _ _).trans (Nat.mod_eq_of_lt (Nat.lt_of_le_of_lt dataWords_le (by decide)))

theorem State.reset_configLegal : State.reset.ConfigLegal := by
  rw [State.ConfigLegal, State.reset_config_toNat]
  exact ⟨four_le_dataWords, dataWords_le⟩

/-- No schedule is tagged after power-on (R40). -/
theorem State.reset_kstagLegal : State.reset.KstagLegal := List.mem_cons_self

theorem State.reset_legal : State.reset.Legal where
  kstag := State.reset_kstagLegal
  status := Nat.zero_le 6
  config := State.reset_configLegal
  data := State.reset_wf

theorem State.reset_kstagInv : State.reset.kstagInv = false := BitVec.getLsbD_zero

/-- A state in which `INV` is 0 promises nothing about `KSI`. -/
theorem invTagSound_of_kstagInv_eq_false {s : State} (h : s.kstagInv = false) : s.InvTagSound :=
  fun hinv => absurd hinv (by simp [h])

theorem State.reset_data_length : State.reset.data.length = Config.dataWords :=
  ((wf_iff _).mp State.reset_wf).trans State.reset_dataWords

/-- Settles O15, from one fact about each element of the reset state. -/
theorem powerOnStateIsLegal : Obligations.PowerOnStateIsLegal :=
  ⟨State.reset_legal, invTagSound_of_kstagInv_eq_false State.reset_kstagInv, State.reset_config_toNat,
    four_le_dataWords, dataWords_le, State.reset_data_length⟩

/-! ## Every step answers a next state -/

/-- Every kind of host step completes: only a write of `CMD` runs a command, and that answers a next state. -/
theorem hostStep_answers_next (h : HostStep) (s : State) : ∃ t, hostStep h s = .next t := by
  cases h with
  | reset => exact ⟨_, rfl⟩
  | read a => exact ⟨_, rfl⟩
  | write a v =>
    by_cases ha : a = 0
    · obtain ⟨t, ht, -⟩ := executeCommand_result v s
      exact ⟨t, by rw [hostStep, if_pos ha, ht]⟩
    · exact ⟨hostWrite a v s, by rw [hostStep, if_neg ha]⟩

theorem step_answers_next (s : State) : ∃ t, step s = .next t := by
  cases hr : s.requests with
  | nil => exact ⟨s, step_idle hr⟩
  | cons h rest =>
    rw [step_pending hr]
    exact hostStep_answers_next h _

theorem exec_answers_next (i : Instr) (s : State) : ∃ t, exec i s = .next t := by
  obtain ⟨t, ht, -⟩ := exec_result i s
  exact ⟨t, ht⟩

/-- Settles O21, by the cases of a pending host step and the result of every command. -/
theorem everyStepAnswersNext : Obligations.EveryStepAnswersNext := fun s =>
  ⟨step_answers_next s, fun i => exec_answers_next i s⟩

end Sys2Proof.Machine
end

section
/-! PROOFS. What every step keeps of the engine's state (10_state.md): the legal values of `KSTAG` (R24) and of the
other registers (R22, R27, R28), and the soundness of `KSTAG.INV` (R23). -/

namespace Sys2Proof.Machine

/-! ## A step that runs a command (R71) -/

/-- Settles O7, by the rule of a pending host step and that of executing a decoded word. -/
theorem stepRunsDecodedCommand : Obligations.StepRunsDecodedCommand := by
  intro s v i rest hr hd
  rw [step_pending hr, hostStep, if_pos rfl, executeCommand_ok hd]

/-! ## Invariants -/

/-- `P` is kept by each thing a step is made of: moving the host's port, a reset, a host write into `KEY`, `CHAIN` or
`DATA`, and the result of a command. -/
structure StepKeeps (P : State → Prop) : Prop where
  port : ∀ s rest cmd response, P s → P { s with requests := rest, cmd := cmd, response := response }
  reset : ∀ s, P s → P (resetEngine s)
  key : ∀ s key, P s → P { s with key := key }
  chain : ∀ s chain, P s → P { s with chain := chain }
  data : ∀ s i v, P s → P { s with data := s.data.set i v }
  exec : ∀ s t, P s → ExecResult s t → P t

/-- Such a property is an invariant of `step`. -/
theorem StepKeeps.step {P : State → Prop} (k : StepKeeps P) {s t : State} (hs : P s) (h : step s = .next t) : P t := by
  have moved : ∀ rest response, P { s with requests := rest, response := response } :=
    fun rest response => k.port s rest s.cmd response hs
  rcases step_cases h with rfl | ⟨rest, rfl | ⟨a, rfl⟩ | ⟨a, v, -, rfl⟩ | ⟨v, he⟩⟩
  · exact hs
  · exact k.reset _ (moved rest s.response)
  · rcases hostRead_cases a { s with requests := rest } with ⟨w, -, hr⟩ | ⟨-, hr⟩ <;> rw [hr]
    · exact moved rest (.word w)
    · exact moved rest .busError
  · rcases hostWrite_cases a v { s with requests := rest } with ⟨i, -, hw⟩ | ⟨i, -, hw⟩ | ⟨i, -, -, hw⟩ | hw <;> rw [hw]
    · exact k.key _ _ (moved rest .written)
    · exact k.chain _ _ (moved rest .written)
    · exact k.data _ i v (moved rest .written)
    · exact moved rest .busError
  · exact k.exec _ _ (k.port s rest v .written hs) he

/-! ## `KSTAG` (R24) -/

/-- The ten values as the combinations of fields that R24 allows. -/
theorem mem_kstagValues_iff (k : Word) : k ∈ kstagValues ↔
    (bitsOf k 7 1 = 0 ∧ bitsOf k 10 22 = 0) ∧
    (k = 0 ∨ (bitsOf k 8 1 = 1 ∧
      ((bitsOf k 0 2 = 0 ∧ (bitsOf k 2 5 = 10 ∨ bitsOf k 2 5 = 12 ∨ bitsOf k 2 5 = 14)) ∨
        (bitsOf k 0 2 ≠ 0 ∧ bitsOf k 2 5 = 16)))) ∧
    (bitsOf k 9 1 = 1 → bitsOf k 0 2 = 0 ∧ bitsOf k 8 1 = 1) := by
  constructor
  · simp only [kstagValues, List.mem_cons, List.not_mem_nil, or_false]
    rintro (rfl | rfl | rfl | rfl | rfl | rfl | rfl | rfl | rfl | rfl) <;> decide
  · have hlt := k.isLt
    simp only [bitsOf, kstagValues, List.mem_cons, List.not_mem_nil, or_false, ← BitVec.toNat_inj, BitVec.reduceToNat]
    rintro ⟨⟨h7, h10⟩, h0 | ⟨h8, ⟨hc, hn⟩ | ⟨hc, hn⟩⟩, hi⟩
    · exact .inl h0
    · omega
    · omega

/-- Setting `INV` on an AES tag gives another of the ten values (R110). -/
theorem kstagWithInv_mem_kstagValues {k : Word} (hk : k ∈ kstagValues) (hf : k.getLsbD 8 = true)
    (hc : k.extractLsb' 0 2 = Cipher.aes.code) : kstagWithInv k ∈ kstagValues := by
  simp only [kstagValues, List.mem_cons, List.not_mem_nil, or_false] at hk
  rcases hk with rfl | rfl | rfl | rfl | rfl | rfl | rfl | rfl | rfl | rfl <;> revert hf hc <;> decide

theorem ExecResult.kstagLegal {s t : State} (h : ExecResult s t) (hs : s.KstagLegal) : t.KstagLegal := by
  cases h with
  | raised e => exact hs
  | expanded c kw hk => exact installSchedule_kstagLegal _ s hk
  | inverted hf hc => exact kstagWithInv_mem_kstagValues hs hf hc
  | processed c needInv step n he => exact hs

theorem kstagLegal_kept : StepKeeps State.KstagLegal where
  port _ _ _ _ h := h
  reset _ _ := List.mem_cons_self
  key _ _ h := h
  chain _ _ h := h
  data _ _ _ h := h
  exec _ _ h he := he.kstagLegal h

/-- Settles O16, by the invariant and the ten values read as fields. -/
theorem kstagInvariant : Obligations.KstagInvariant :=
  ⟨State.reset_kstagLegal, fun _ _ => kstagLegal_kept.step, fun s => mem_kstagValues_iff s.kstag⟩

/-! ## All registers and `DATA` (R22, R27, R28) -/

theorem ExecResult.status_le {s t : State} (h : ExecResult s t) : t.StatusLegal := by
  cases h with
  | raised e => exact (statusWord_errorCode_toNat e).2
  | expanded | inverted | processed => exact Nat.zero_le 6

theorem ExecResult.config_eq {s t : State} (h : ExecResult s t) : t.config = s.config := by cases h <;> rfl

theorem ExecResult.wf {s t : State} (h : ExecResult s t) (hs : Memory.wf s = true) : Memory.wf t = true := by
  cases h with
  | raised | expanded | inverted => exact hs
  | processed c needInv step n he =>
    obtain ⟨-, -, -, hn⟩ := (modeError_eq_none_iff c needInv n s).mp he
    exact processBlocks_wf step n hn hs

theorem legal_kept : StepKeeps State.Legal where
  port _ _ _ _ h := ⟨h.kstag, h.status, h.config, h.data⟩
  reset s h := ⟨List.mem_cons_self, Nat.zero_le 6, h.config, resetEngine_wf s⟩
  key _ _ h := ⟨h.kstag, h.status, h.config, h.data⟩
  chain _ _ h := ⟨h.kstag, h.status, h.config, h.data⟩
  data _ _ _ h := ⟨h.kstag, h.status, h.config, by rw [← h.data]; exact wf_congr List.length_set rfl⟩
  exec s t h he := ⟨he.kstagLegal h.kstag, he.status_le, by rw [State.ConfigLegal, he.config_eq]; exact h.config,
    he.wf h.data⟩

/-- Settles O17, by the invariant of all four conditions. -/
theorem legalStatesStayLegal : Obligations.LegalStatesStayLegal := fun _ _ => legal_kept.step

/-! ## `KSTAG.INV` (R23, R109, R110) -/

/-- An AES schedule of a legal tag fits into `KSI` (R35). -/
theorem aesScheduleWords_le {s : State} (hl : s.KstagLegal) (hr : s.Ready .aes) : 4 * (s.kstagNr + 1) ≤ 60 := by
  rcases kstagNr_of_legal_aes hl hr with h | h | h <;> rw [h] <;> decide

theorem kstagNr_of_kstagWithInv {s t : State} (h : t.kstag = kstagWithInv s.kstag) : t.kstagNr = s.kstagNr := by
  obtain ⟨-, hnr, -, -⟩ := kstagWithInv_fields s.kstag
  rw [State.kstagNr, h, hnr, State.kstagNr]

/-- The stored words that `INVKEY.AES` leaves in `KSI` are the whole inverse schedule. -/
theorem ksiWord_storeKsi_aesInverseSchedule {s : State} (hl : s.KstagLegal) (hr : s.Ready .aes) (ks : Nat → Word)
    {j : Nat} (hj : j < 4 * (s.kstagNr + 1)) :
    (s.storeKsi (aesInverseSchedule s.kstagNr ks)).ksiWord j = (aesInverseSchedule s.kstagNr ks).getD j 0 := by
  rw [ksiWord_storeKsi, length_aesInverseSchedule, if_pos ⟨hj, lt_of_lt_of_le hj (aesScheduleWords_le hl hr)⟩]

theorem ExecResult.invTagSound {s t : State} (h : ExecResult s t) (hl : s.KstagLegal) (hs : s.InvTagSound) :
    t.InvTagSound := by
  cases h with
  | raised | processed => exact hs
  | expanded c kw hk => exact invTagSound_of_kstagInv_eq_false (installSchedule_kstagInv _ s hk)
  | inverted hf hc =>
    have hnr := kstagNr_of_kstagWithInv (s := s)
      (t := { s.storeKsi (aesInverseSchedule s.kstagNr s.ksfWord) with kstag := kstagWithInv s.kstag }.succeed) rfl
    intro _ j hj
    rw [hnr] at hj ⊢
    exact ksiWord_storeKsi_aesInverseSchedule hl ⟨hf, hc⟩ s.ksfWord hj

/-- The tag must be legal beside it, or the inverse schedule need not fit into `KSI`. -/
theorem invTagSound_kept : StepKeeps fun s => s.KstagLegal ∧ s.InvTagSound where
  port _ _ _ _ h := h
  reset _ _ := ⟨List.mem_cons_self, invTagSound_of_kstagInv_eq_false BitVec.getLsbD_zero⟩
  key _ _ h := h
  chain _ _ h := h
  data _ _ _ h := h
  exec := fun _ _ ⟨hl, hs⟩ he => ⟨he.kstagLegal hl, he.invTagSound hl hs⟩

/-- Settles O18, by the invariant beside the legal values of the tag. -/
theorem inverseTagStaysSound : Obligations.InverseTagStaysSound :=
  fun _ _ hl hs h => (invTagSound_kept.step ⟨hl, hs⟩ h).2

end Sys2Proof.Machine
end

section
/-! PROOFS. The writers of each element of state (10_state.md R20 to R35): what a host access and each shape of command
can change. -/

namespace Sys2Proof.Machine

/-! ## Addresses (R51) -/

/-- The addresses at which the map of R51 lists an element. -/
def Element.Addresses (e : Element) (dataWords a : Nat) : Prop :=
  match e with
  | .cmd => a = 0x0
  | .status => a = 0x1
  | .kstag => a = 0x2
  | .config => a = 0x3
  | .key _ => 0x10 ≤ a ∧ a ≤ 0x1D
  | .chain _ => 0x20 ≤ a ∧ a ≤ 0x23
  | .ksf _ => 0x400 ≤ a ∧ a ≤ 0x811
  | .ksi _ => 0xC00 ≤ a ∧ a ≤ 0xC3B
  | .data _ => 0x10000 ≤ a ∧ a < 0x10000 + dataWords

theorem addresses_of_addressMap {dw : Nat} {a : Word} {e : Element} (h : addressMap dw a = some e) :
    e.Addresses dw a.toNat := by
  simp only [addressMap] at h
  repeat' split at h
  all_goals cases h
  all_goals assumption

/-! ## Frames of the commands -/

theorem exec_keyexpOf_frame {c : Cipher} {kw : Nat} {s t : State} (h : exec (keyexpOf c kw) s = .next t) :
    ∃ status kstag ksf, t = { s with status := status, kstag := kstag, ksf := ksf } := by
  rw [exec_keyexpOf] at h
  split at h <;> cases h <;> exact ⟨_, _, _, rfl⟩

theorem exec_invkeyAes_frame {s t : State} (h : exec .invkeyAes s = .next t) :
    ∃ status kstag ksi, t = { s with status := status, kstag := kstag, ksi := ksi } := by
  rw [exec_invkeyAes] at h
  split at h <;> cases h <;> exact ⟨_, _, _, rfl⟩

theorem modeCommand_frame {B : Nat} {c : Cipher} {needInv : Bool} {step : BlockStep B} {n : Nat} {s t : State}
    (h : modeCommand c needInv step n s = .next t) :
    ∃ status chain data, t = { s with status := status, chain := chain, data := data } := by
  rcases modeCommand_cases c needInv step n s with ⟨e, -, he⟩ | ⟨-, he⟩ <;> rw [he] at h <;> cases h <;>
    exact ⟨_, _, _, rfl⟩

/-- ECB threads the chain block through unchanged (R222, R223). -/
theorem chainBefore_ecbStep {B : Nat} (f : Block B → Block B) (ws : List Word) (ch : Block B) (k : Nat) :
    chainBefore (ecbStep f) ws ch k = ch := by
  induction k with
  | zero => rfl
  | succ k ih => rw [chainBefore_succ, ih]; rfl

theorem modeCommand_ecbStep_chain {B : Nat} {c : Cipher} {needInv : Bool} {f : Block B → Block B} {n : Nat}
    {s t : State} (h : modeCommand c needInv (ecbStep f) n s = .next t) : t.chain = s.chain := by
  rcases modeCommand_cases c needInv (ecbStep f) n s with ⟨e, -, he⟩ | ⟨-, he⟩ <;> rw [he] at h <;> cases h
  · rfl
  · rw [State.succeed_chain, processBlocks_chain, runBlocks_chain, chainBefore_ecbStep, overlayVector_chainBlock]

/-- Every command that is no key command is a mode command. -/
theorem instr_kinds (i : Instr) :
    (∃ c kw, i = keyexpOf c kw) ∨ i = .invkeyAes ∨ ∃ m c n, i = encOf m c n ∨ i = decOf m c n := by
  rcases instr_cases i with hk | hi | ⟨m, c, n, hm⟩ | ⟨m, c, n, hm⟩
  · exact .inl hk
  · exact .inr (.inl hi)
  · exact .inr (.inr ⟨m, c, n, .inl hm⟩)
  · exact .inr (.inr ⟨m, c, n, .inr hm⟩)

theorem exec_mode_frame {i : Instr} {m : Mode} {c : Cipher} {n : Nat} {s t : State}
    (hi : i = encOf m c n ∨ i = decOf m c n) (h : exec i s = .next t) :
    ∃ status chain data, t = { s with status := status, chain := chain, data := data } ∧
      (m = .ecb → chain = s.chain) := by
  rcases hi with rfl | rfl
  · rw [exec_encOf] at h
    obtain ⟨status, chain, data, rfl⟩ := modeCommand_frame h
    exact ⟨status, chain, data, rfl, by rintro rfl; exact modeCommand_ecbStep_chain h⟩
  · rw [exec_decOf] at h
    obtain ⟨status, chain, data, rfl⟩ := modeCommand_frame h
    exact ⟨status, chain, data, rfl, by rintro rfl; exact modeCommand_ecbStep_chain h⟩

/-! ## The writers -/

/-- Settles O19, by the kinds of host step, the elements a host write can reach, and the frames of the four shapes of
command. -/
theorem writersOfState : Obligations.WritersOfState := by
  intro s t h rest hr ht runs
  rw [step_pending hr] at ht
  have same : ∀ {α : Type} {x : α} {p : Prop}, x ≠ x → p := fun hx => absurd rfl hx
  cases h with
  | reset =>
    cases ht
    exact ⟨rfl, rfl, fun _ => .inl rfl, fun _ => .inl rfl, fun _ => .inl rfl, fun _ => .inl rfl, fun _ => .inl rfl,
      fun _ => .inl rfl, fun _ => .inl rfl, fun _ => .inl rfl⟩
  | read a =>
    cases ht
    rcases hostRead_cases a { s with requests := rest } with ⟨w, -, hr⟩ | ⟨-, hr⟩ <;> rw [hr] <;>
      exact ⟨rfl, rfl, same, same, same, same, same, same, same, same⟩
  | write a v =>
    by_cases ha : a = 0
    · subst ha
      rw [hostStep, if_pos rfl] at ht
      have wrote : HostStep.write 0 v = .reset ∨ ∃ w, HostStep.write 0 v = .write 0 w := .inr ⟨v, rfl⟩
      cases hd : decode v with
      | error e =>
        rw [executeCommand_error hd] at ht
        cases ht
        exact ⟨rfl, rfl, fun _ => wrote, fun _ => wrote, same, same, same, same, same, same⟩
      | ok i =>
        rw [executeCommand_ok hd] at ht
        rcases instr_kinds i with ⟨c, kw, rfl⟩ | rfl | ⟨m, c, n, hi⟩
        · obtain ⟨status, kstag, ksf, rfl⟩ := exec_keyexpOf_frame ht
          exact ⟨rfl, rfl, fun _ => wrote, fun _ => wrote, fun _ => .inr (.inr ⟨c, kw, v, rfl, hd⟩),
            fun _ => .inr ⟨c, kw, v, rfl, hd⟩, same, same, same, same⟩
        · obtain ⟨status, kstag, ksi, rfl⟩ := exec_invkeyAes_frame ht
          exact ⟨rfl, rfl, fun _ => wrote, fun _ => wrote, fun _ => .inr (.inl ⟨v, rfl, hd⟩), same,
            fun _ => .inr ⟨v, rfl, hd⟩, same, same, same⟩
        · obtain ⟨status, chain, data, rfl, hecb⟩ := exec_mode_frame hi ht
          have ran : runs (encOf m c n) ∨ runs (decOf m c n) := by
            rcases hi with rfl | rfl
            · exact .inl ⟨v, rfl, hd⟩
            · exact .inr ⟨v, rfl, hd⟩
          exact ⟨rfl, rfl, fun _ => wrote, fun _ => wrote, same, same, same, same,
            fun hne => .inr (.inr ⟨m, c, n, fun hm => hne (hecb hm), ran⟩), fun _ => .inr (.inr ⟨m, c, n, ran⟩)⟩
    · rw [hostStep, if_neg ha] at ht
      cases ht
      rcases hostWrite_cases a v { s with requests := rest } with ⟨i, hi, hw⟩ | ⟨i, hi, hw⟩ | ⟨i, hi, -, hw⟩ | hw <;>
        rw [hw]
      · exact ⟨rfl, rfl, same, same, same, same, same,
          fun _ => .inr ⟨a, v, rfl, addresses_of_addressMap hi⟩, same, same⟩
      · exact ⟨rfl, rfl, same, same, same, same, same, same,
          fun _ => .inr (.inl ⟨a, v, rfl, addresses_of_addressMap hi⟩), same⟩
      · exact ⟨rfl, rfl, same, same, same, same, same, same, same,
          fun _ => .inr (.inl ⟨a, v, rfl, (addresses_of_addressMap hi).1⟩)⟩
      · exact ⟨rfl, rfl, same, same, same, same, same, same, same, same⟩

end Sys2Proof.Machine
end

section
/-! PROOFS. What the commands read of `KEY`, `KSF` and `KSI` (10_state.md R25, R31 to R35): the key words a `KEYEXP`
uses, the schedule words a block function uses, and nothing else. -/

namespace Sys2Proof.Machine

/-! ## The key words a schedule uses (R103, R145, R176, R191) -/

theorem aesExpandNext_congr {nk : Nat} {key key' : Nat → Word} (h : ∀ i < nk, key' i = key i) (ks : List Word) :
    aesExpandNext nk key' ks = aesExpandNext nk key ks := by
  simp only [aesExpandNext]
  split
  · exact h _ ‹_›
  · rfl

theorem aesExpand_congr {nk : Nat} {key key' : Nat → Word} (h : ∀ i < nk, key' i = key i) (n : Nat) :
    aesExpand nk key' n = aesExpand nk key n := by
  induction n with
  | zero => rfl
  | succ n ih => simp only [aesExpand, ih, aesExpandNext_congr h]

theorem bfSchedule_congr {kw : Nat} {key key' : Nat → Word} (hkw : 0 < kw) (h : ∀ i < kw, key' i = key i) :
    bfSchedule kw key' = bfSchedule kw key := by
  have hkey : ∀ i, key' (i % kw) = key (i % kw) := fun i => h _ (Nat.mod_lt i hkw)
  simp only [bfSchedule, bfInitialTables, hkey]

/-- For a supported key size the schedule depends on the first `kw` key words only. -/
theorem scheduleOf_congr {c : Cipher} {kw : Nat} {s t : State} (hkw : kw ∈ keySizes c)
    (h : ∀ i < kw, t.keyWord i = s.keyWord i) : scheduleOf c kw t = scheduleOf c kw s := by
  cases c with
  | aes => exact aesExpand_congr h _
  | des =>
    obtain rfl : kw = 2 := List.mem_singleton.mp hkw
    simp only [scheduleOf, h 0 (by decide), h 1 (by decide)]
  | tdes =>
    obtain rfl : kw = 6 := List.mem_singleton.mp hkw
    simp only [scheduleOf, tdesSchedule, h 0 (by decide), h 1 (by decide), h 2 (by decide), h 3 (by decide),
      h 4 (by decide), h 5 (by decide)]
  | bf => exact bfSchedule_congr (Nat.pos_of_ne_zero fun h0 => by subst h0; revert hkw; decide) h

/-- Settles O33, by the dependence of each schedule on the first `kw` key words. -/
theorem keyWordsBeyondKeySizeAreIgnored : Obligations.KeyWordsBeyondKeySizeAreIgnored := by
  intro c kw s t key hkey ht
  rw [exec_keyexpOf] at ht ⊢
  by_cases hkw : kw ∈ keySizes c
  · rw [if_pos hkw] at ht ⊢
    cases ht
    rw [scheduleOf_congr (s := s) (t := { s with key := key }) hkw hkey]
    rfl
  · rw [if_neg hkw] at ht ⊢
    cases ht
    rfl

/-! ## A `KEYEXP` makes the inverse schedule stale (R23, R220) -/

theorem modeError_of_kstagInv_eq_false {c : Cipher} {n : Nat} {s : State} (h : s.kstagInv = false) :
    modeError c true n s = some .scheduleNotReady := by
  simp [modeError, h]

theorem modeCommand_of_kstagInv_eq_false {B : Nat} {c : Cipher} {step : BlockStep B} {n : Nat} {s : State}
    (h : s.kstagInv = false) : modeCommand c true step n s = .next { s with status := 5 } := by
  rw [modeCommand, modeError_of_kstagInv_eq_false h]
  rfl

/-- Settles O35: the tag a `KEYEXP` writes has `INV = 0`, which both commands check. -/
theorem staleInverseScheduleIsRefused : Obligations.StaleInverseScheduleIsRefused := by
  intro c kw s hkw
  have hinv := installSchedule_kstagInv (scheduleOf c kw s) s hkw
  exact ⟨_, by rw [exec_keyexpOf, if_pos hkw], rfl, hinv,
    fun n => ⟨modeCommand_of_kstagInv_eq_false hinv, modeCommand_of_kstagInv_eq_false hinv⟩⟩

/-! ## The schedule words a block function uses (R121, R159, R205 to R208) -/

theorem aesMainRounds_congr (T : Nat → Byte → Word) {rk rk' : Nat → Word} (m : Nat) (b : Block 4)
    (h : ∀ j < 4 * (m + 1), rk' j = rk j) : aesMainRounds T rk' m b = aesMainRounds T rk m b := by
  induction m with
  | zero => rfl
  | succ m ih =>
    have hround : ∀ x, aesRound T rk' (4 * (m + 1)) x = aesRound T rk (4 * (m + 1)) x := fun x =>
      congrArg Vector.ofFn (funext fun i => by rw [h (4 * (m + 1) + i.val) (by omega)])
    rw [aesMainRounds, aesMainRounds, ih fun j hj => h j (by omega), hround]

/-- `AesCore` uses the round keys `rk[0 .. 4*NR+3]`. -/
theorem aesCore_congr (T : Nat → Byte → Word) (sb : Byte → Byte) {rk rk' : Nat → Word} {nr : Nat}
    (h : ∀ j < 4 * (nr + 1), rk' j = rk j) : aesCore T sb rk' nr = aesCore T sb rk nr := by
  have hfirst : ∀ x, aesAddKey rk' 0 x = aesAddKey rk 0 x := fun x =>
    congrArg Vector.ofFn (funext fun i => by rw [h (0 + i.val) (by omega)])
  have hlast : ∀ x, aesFinalRound sb rk' (4 * nr) x = aesFinalRound sb rk (4 * nr) x := fun x =>
    congrArg Vector.ofFn (funext fun i => by rw [h (4 * nr + i.val) (by omega)])
  funext b
  rw [aesCore, aesCore, hlast, hfirst, aesMainRounds_congr T (nr - 1) _ fun j hj => h j (by omega)]

theorem aesEncrypt_congr {ks ks' : Nat → Word} {nr : Nat} (h : ∀ j < 4 * (nr + 1), ks' j = ks j) :
    aesEncrypt ks' nr = aesEncrypt ks nr := aesCore_congr subMix sbox h

theorem aesDecrypt_congr {iks iks' : Nat → Word} {nr : Nat} (h : ∀ j < 4 * (nr + 1), iks' j = iks j) :
    aesDecrypt iks' nr = aesDecrypt iks nr := by
  funext b
  rw [aesDecrypt, aesDecrypt, aesCore_congr invSubMix invSbox h]

/-- `F_DES` uses the eight selectors of its round. -/
theorem fDes_congr (r : Word) {sel sel' : Nat → BitVec 6} (h : ∀ i < 8, sel' i = sel i) : fDes r sel' = fDes r sel := by
  have hbox : ∀ i < 8, desBoxOutput r sel' i = desBoxOutput r sel i := fun i hi => by
    rw [desBoxOutput, desBoxOutput, h i hi]
  rw [fDes, fDes, hbox 0 (by decide), hbox 1 (by decide), hbox 2 (by decide), hbox 3 (by decide), hbox 4 (by decide),
    hbox 5 (by decide), hbox 6 (by decide), hbox 7 (by decide)]

theorem desRound_congr {sel sel' : Nat → BitVec 6} (h : ∀ i < 8, sel' i = sel i) : desRound sel' = desRound sel := by
  funext lr
  rw [desRound, desRound, fDes_congr lr.2 h]

/-- What `DesCore` does with the halves after the last round: the swap undone, then the final permutation (R160). -/
def desOutput (lr : Word × Word) : Block 2 :=
  let out := desFinalPermutation (lr.2, lr.1)
  #v[out.1, out.2]

theorem desCore_eq_desOutput (sel : Nat → Nat → BitVec 6) (order : List Nat) (b : Block 2) :
    desCore sel order b =
      desOutput (order.foldl (fun lr r => desRound (sel r) lr) (desInitialPermutation (b[0], b[1]))) := rfl

/-- `DesCore` uses the eight selectors of each of the 16 rounds. -/
theorem desCore_congr {sel sel' : Nat → Nat → BitVec 6} {order : List Nat} (horder : ∀ r ∈ order, r < 16)
    (h : ∀ r < 16, ∀ i < 8, sel' r i = sel r i) : desCore sel' order = desCore sel order := by
  funext b
  rw [desCore_eq_desOutput, desCore_eq_desOutput,
    List.foldl_ext _ _ _ fun lr r hr => congrFun (desRound_congr (h r (horder r hr))) lr]

theorem desEnc_congr {sel sel' : Nat → Nat → BitVec 6} (h : ∀ r < 16, ∀ i < 8, sel' r i = sel r i) :
    desEnc sel' = desEnc sel := desCore_congr (fun _ => List.mem_range.mp) h

theorem desDec_congr {sel sel' : Nat → Nat → BitVec 6} (h : ∀ r < 16, ∀ i < 8, sel' r i = sel r i) :
    desDec sel' = desDec sel := desCore_congr (fun _ hr => List.mem_range.mp (List.mem_reverse.mp hr)) h

theorem desSelector_congr {s t : State} {base : Nat} (h : ∀ j < base + 128, t.ksfWord j = s.ksfWord j) :
    ∀ r < 16, ∀ i < 8, t.desSelector base r i = s.desSelector base r i := fun r hr i hi => by
  rw [State.desSelector, State.desSelector, h (base + 8 * r + i) (by omega)]

/-- `F` uses the 256 words of each of the four boxes. -/
theorem fBf_congr {S S' : Nat → Nat → Word} (h : ∀ b < 4, ∀ j < 256, S' b j = S b j) : fBf S' = fBf S := by
  funext x
  rw [fBf, fBf, h 0 (by decide) _ (byteOf 0 x).isLt, h 1 (by decide) _ (byteOf 1 x).isLt,
    h 2 (by decide) _ (byteOf 2 x).isLt, h 3 (by decide) _ (byteOf 3 x).isLt]

theorem bfNetwork_congr {S S' : Nat → Nat → Word} (h : ∀ b < 4, ∀ j < 256, S' b j = S b j) :
    bfNetwork S' = bfNetwork S := by
  have hround : bfRound S' = bfRound S := by
    funext p lr
    rw [bfRound, bfRound, fBf_congr h]
  funext order pR pL b
  rw [bfNetwork, bfNetwork, hround]

theorem bfEnc_congr {P P' : Nat → Word} {S S' : Nat → Nat → Word} (hP : ∀ i < 18, P' i = P i)
    (hS : ∀ b < 4, ∀ j < 256, S' b j = S b j) : bfEnc P' S' = bfEnc P S := by
  have horder : (List.range 16).map P' = (List.range 16).map P :=
    List.map_congr_left fun i hi => hP i (by have := List.mem_range.mp hi; omega)
  funext b
  rw [bfEnc, bfEnc, bfNetwork_congr hS, horder, hP 16 (by decide), hP 17 (by decide)]

theorem bfDec_congr {P P' : Nat → Word} {S S' : Nat → Nat → Word} (hP : ∀ i < 18, P' i = P i)
    (hS : ∀ b < 4, ∀ j < 256, S' b j = S b j) : bfDec P' S' = bfDec P S := by
  have horder : ((List.range 16).map fun i => P' (17 - i)) = (List.range 16).map fun i => P (17 - i) :=
    List.map_congr_left fun i _ => hP (17 - i) (by omega)
  funext b
  rw [bfDec, bfDec, bfNetwork_congr hS, horder, hP 1 (by decide), hP 0 (by decide)]

theorem bfP_congr {s t : State} (h : ∀ j < 1042, t.ksfWord j = s.ksfWord j) : ∀ i < 18, t.bfP i = s.bfP i :=
  fun i hi => h i (by omega)

theorem bfS_congr {s t : State} (h : ∀ j < 1042, t.ksfWord j = s.ksfWord j) :
    ∀ b < 4, ∀ j < 256, t.bfS b j = s.bfS b j :=
  fun b hb j hj => h (18 + 256 * b + j) (by omega)

section
variable {s t : State}

theorem kstagNr_congr (hk : t.kstag = s.kstag) : t.kstagNr = s.kstagNr := by rw [State.kstagNr, State.kstagNr, hk]

theorem efAes_congr (hk : t.kstag = s.kstag) (h : ∀ j < 4 * (s.kstagNr + 1), t.ksfWord j = s.ksfWord j) :
    efAes t = efAes s := by
  funext b
  rw [efAes, efAes, kstagNr_congr hk, aesEncrypt_congr h]

theorem eiAes_congr (hk : t.kstag = s.kstag) (h : ∀ j < 4 * (s.kstagNr + 1), t.ksiWord j = s.ksiWord j) :
    eiAes t = eiAes s := by
  funext b
  rw [eiAes, eiAes, kstagNr_congr hk, aesDecrypt_congr h]

theorem efDes_congr (h : ∀ j < 128, t.ksfWord j = s.ksfWord j) : efDes t = efDes s := by
  funext b
  rw [efDes, efDes, desEnc_congr (desSelector_congr h)]

theorem eiDes_congr (h : ∀ j < 128, t.ksfWord j = s.ksfWord j) : eiDes t = eiDes s := by
  funext b
  rw [eiDes, eiDes, desDec_congr (desSelector_congr h)]

/-- The three schedules of Triple-DES lie in the first 384 words (R33). -/
theorem tdesSelectors_congr (h : ∀ j < 384, t.ksfWord j = s.ksfWord j) {base : Nat} (hbase : base ≤ 256) :
    ∀ r < 16, ∀ i < 8, t.desSelector base r i = s.desSelector base r i :=
  desSelector_congr fun j hj => h j (by omega)

theorem efTdes_congr (h : ∀ j < 384, t.ksfWord j = s.ksfWord j) : efTdes t = efTdes s := by
  funext b
  rw [efTdes, efTdes, tdesEnc, tdesEnc, desEnc_congr (tdesSelectors_congr h (by decide : 0 ≤ 256)),
    desDec_congr (tdesSelectors_congr h (by decide : 128 ≤ 256)), desEnc_congr (tdesSelectors_congr h le_rfl)]

theorem eiTdes_congr (h : ∀ j < 384, t.ksfWord j = s.ksfWord j) : eiTdes t = eiTdes s := by
  funext b
  rw [eiTdes, eiTdes, tdesDec, tdesDec, desDec_congr (tdesSelectors_congr h (by decide : 0 ≤ 256)),
    desEnc_congr (tdesSelectors_congr h (by decide : 128 ≤ 256)), desDec_congr (tdesSelectors_congr h le_rfl)]

theorem efBf_congr (h : ∀ j < 1042, t.ksfWord j = s.ksfWord j) : efBf t = efBf s := by
  funext b
  rw [efBf, efBf, bfEnc_congr (bfP_congr h) (bfS_congr h)]

theorem eiBf_congr (h : ∀ j < 1042, t.ksfWord j = s.ksfWord j) : eiBf t = eiBf s := by
  funext b
  rw [eiBf, eiBf, bfDec_congr (bfP_congr h) (bfS_congr h)]

/-- `Ef` uses the words of `KSF` its schedule occupies. -/
theorem ef_congr {c : Cipher} (hk : t.kstag = s.kstag)
    (h : ∀ j < scheduleWords c s.kstagNr, t.ksfWord j = s.ksfWord j) : t.ef c = s.ef c := by
  cases c with
  | aes => exact efAes_congr hk h
  | des => exact efDes_congr h
  | tdes => exact efTdes_congr h
  | bf => exact efBf_congr h

/-- `Ei` uses the words of `KSF` its schedule occupies; that of AES uses as many words of `KSI` instead. -/
theorem ei_congr {c : Cipher} (hk : t.kstag = s.kstag)
    (h : ∀ j < scheduleWords c s.kstagNr, t.ksfWord j = s.ksfWord j)
    (hi : c = .aes → ∀ j < 4 * (s.kstagNr + 1), t.ksiWord j = s.ksiWord j) : t.ei c = s.ei c := by
  cases c with
  | aes => exact eiAes_congr hk (hi rfl)
  | des => exact eiDes_congr h
  | tdes => exact eiTdes_congr h
  | bf => exact eiBf_congr h

end

/-- The inverse schedule uses the words of the forward one (R109). -/
theorem aesInverseSchedule_congr {nr : Nat} {ks ks' : Nat → Word} (h : ∀ j < 4 * (nr + 1), ks' j = ks j) :
    aesInverseSchedule nr ks' = aesInverseSchedule nr ks := by
  have hword : ∀ q, ∀ w ∈ [0, 3, 2, 1], ks' (4 * (nr - q) + w) = ks (4 * (nr - q) + w) := fun q w hw => by
    have hw4 : w < 4 := by revert w; decide
    exact h _ (by omega)
  exact congrArg (List.flatMap · _) (funext fun q => List.map_congr_left fun w hw => by rw [hword q w hw])

/-- What `INVKEY.AES` writes into `KSI` with a legal AES tag (R109, R110). -/
theorem exec_invkeyAes_ksiWord {s : State} (hl : s.KstagLegal) (hr : s.Ready .aes) :
    ∃ t, exec .invkeyAes s = .next t ∧
      ∀ j < 4 * (s.kstagNr + 1), t.ksiWord j = (aesInverseSchedule s.kstagNr s.ksfWord).getD j 0 :=
  ⟨_, (exec_invkeyAes s).trans (if_pos hr), fun _ hj => ksiWord_storeKsi_aesInverseSchedule hl hr s.ksfWord hj⟩

/-! ## Mode commands on other contents of the files -/

/-- The state with other contents of `KEY`, `KSF` and `KSI`. -/
abbrev State.withKeys (s : State) (key : Vector Word 14) (ksf : Vector Word 1042) (ksi : Vector Word 60) : State :=
  { s with key := key, ksf := ksf, ksi := ksi }

/-- A mode command reads those files through its block step only, and its block step only once the checks passed. -/
theorem modeCommand_withKeys {B : Nat} {c : Cipher} {needInv : Bool} {step step' : BlockStep B} {n : Nat} {s t : State}
    (key : Vector Word 14) (ksf : Vector Word 1042) (ksi : Vector Word 60)
    (hstep : modeError c needInv n s = none → step' = step) (h : modeCommand c needInv step n s = .next t) :
    modeCommand c needInv step' n (s.withKeys key ksf ksi) = .next (t.withKeys key ksf ksi) := by
  have herr : modeError c needInv n (s.withKeys key ksf ksi) = modeError c needInv n s := modeError_congr rfl rfl
  rcases modeCommand_cases c needInv step n s with ⟨e, he, hr⟩ | ⟨he, hr⟩ <;> rw [hr] at h <;> cases h <;>
    rw [modeCommand, herr, he]
  · rfl
  · rw [hstep he]
    rfl

theorem exec_encOf_withKeys {m : Mode} {c : Cipher} {n : Nat} {s t : State} {key : Vector Word 14}
    {ksf : Vector Word 1042} {ksi : Vector Word 60} (hef : (s.withKeys key ksf ksi).ef c = s.ef c)
    (h : exec (encOf m c n) s = .next t) :
    exec (encOf m c n) (s.withKeys key ksf ksi) = .next (t.withKeys key ksf ksi) := by
  rw [exec_encOf] at h ⊢
  exact modeCommand_withKeys key ksf ksi (fun _ => by rw [hef]) h

/-- Only ECB and CBC decrypt with `Ei` (R221). -/
theorem decStep_congr {B : Nat} {m : Mode} (ef : Block B → Block B) {ei ei' : Block B → Block B}
    (h : m = .ecb ∨ m = .cbc → ei' = ei) : decStep m ef ei' = decStep m ef ei := by
  cases m with
  | ecb => rw [h (.inl rfl)]
  | cbc => rw [h (.inr rfl)]
  | cfb | ofb | ctr => rfl

/-- `Ei` is used in ECB and CBC only, and that of AES only with `INV = 1` (R220). -/
theorem exec_decOf_withKeys {m : Mode} {c : Cipher} {n : Nat} {s t : State} {key : Vector Word 14}
    {ksf : Vector Word 1042} {ksi : Vector Word 60} (hef : (s.withKeys key ksf ksi).ef c = s.ef c)
    (hei : (c = .aes → s.kstagInv = true) → (s.withKeys key ksf ksi).ei c = s.ei c)
    (h : exec (decOf m c n) s = .next t) :
    exec (decOf m c n) (s.withKeys key ksf ksi) = .next (t.withKeys key ksf ksi) := by
  rw [exec_decOf] at h ⊢
  refine modeCommand_withKeys key ksf ksi (fun he => ?_) h
  obtain ⟨-, hinv, -, -⟩ := (modeError_eq_none_iff _ _ _ _).mp he
  rw [hef]
  refine decStep_congr _ fun hm => hei fun hc => hinv ?_
  rcases hm with rfl | rfl <;> rw [hc] <;> rfl

/-- Settles O58: no block function and no inverse schedule reads `KEY`. -/
theorem keyRegistersDoNotAffectModeCommands : Obligations.KeyRegistersDoNotAffectModeCommands := by
  intro s t key i hi ht
  rcases instr_kinds i with ⟨c, kw, rfl⟩ | rfl | ⟨m, c, n, hm⟩
  · exact absurd rfl (hi c kw)
  · rw [exec_invkeyAes] at ht ⊢
    split at ht <;> rename_i hready <;> cases ht
    · exact if_pos hready
    · exact if_neg hready
  · have hef : (s.withKeys key s.ksf s.ksi).ef c = s.ef c := ef_congr rfl fun _ _ => rfl
    have hei : (s.withKeys key s.ksf s.ksi).ei c = s.ei c := ei_congr rfl (fun _ _ => rfl) fun _ _ _ => rfl
    obtain ⟨status, chain, data, rfl, -⟩ := exec_mode_frame hm ht
    rcases hm with rfl | rfl
    · exact exec_encOf_withKeys hef ht
    · exact exec_decOf_withKeys hef (fun _ => hei) ht

/-- Settles O57, by the words each block function and the inverse schedule use. -/
theorem unspecifiedScheduleWordsAreNotRead : Obligations.UnspecifiedScheduleWordsAreNotRead := by
  intro c s ksf ksi s' hl hready hksf hksi
  have hef : (s.withKeys s.key ksf ksi).ef c = s.ef c := ef_congr rfl hksf
  have hei : (c = .aes → s.kstagInv = true) → (s.withKeys s.key ksf ksi).ei c = s.ei c := fun hinv =>
    ei_congr rfl hksf fun hc => hksi (hinv hc)
  refine ⟨fun m n t => ⟨fun ht => ?_, fun ht => ?_⟩, ?_⟩
  · obtain ⟨status, chain, data, rfl, -⟩ := exec_mode_frame (.inl rfl) ht
    exact exec_encOf_withKeys hef ht
  · obtain ⟨status, chain, data, rfl, -⟩ := exec_mode_frame (.inr rfl) ht
    exact exec_decOf_withKeys hef hei ht
  · rintro rfl
    obtain ⟨t, ht, hw⟩ := exec_invkeyAes_ksiWord hl hready
    obtain ⟨t', ht', hw'⟩ := exec_invkeyAes_ksiWord (s := s') hl hready
    have hsched : aesInverseSchedule s'.kstagNr s'.ksfWord = aesInverseSchedule s.kstagNr s.ksfWord :=
      aesInverseSchedule_congr hksf
    exact ⟨t, t', ht, ht', fun j hj => by rw [hw j hj, hw' j hj, hsched]⟩

end Sys2Proof.Machine
end

section
/-! PROOFS. The bus (20_memory.md): the address map read both ways (R51), a host read and a host write as one equation
each (R53, R54), a bus error (R55), and a read after a write (R61). -/

namespace Sys2Proof.Machine

/-! ## The address map (R51) -/

/-- The address of an element. -/
def Element.address (e : Element) : Nat :=
  match e with
  | .cmd => 0x0
  | .status => 0x1
  | .kstag => 0x2
  | .config => 0x3
  | .key i => 0x10 + i
  | .chain i => 0x20 + i
  | .ksf i => 0x400 + i
  | .ksi i => 0xC00 + i
  | .data i => 0x10000 + i

/-- `DATA` ends at `DATA_WORDS`; the other files have their length in their type. -/
def Element.InRange (e : Element) (dataWords : Nat) : Prop :=
  match e with
  | .data i => i < dataWords
  | _ => True

/-- The elements whose words a host write sets: `KEY`, `CHAIN` and `DATA` (R54). -/
def Element.Writable (e : Element) : Prop :=
  match e with
  | .key _ | .chain _ | .data _ => True
  | _ => False

theorem Element.address_injective : Function.Injective Element.address := by
  intro e e' h
  cases e <;> cases e' <;> simp only [Element.address] at h <;>
    simp only [Element.key.injEq, Element.chain.injEq, Element.ksf.injEq, Element.ksi.injEq, Element.data.injEq,
      Fin.ext_iff, reduceCtorEq] <;> omega

theorem addressMap_eq_none_iff (s : State) (a : Word) : addressMap s.dataWords a = none ↔ s.Unmapped a := by
  simp only [addressMap, State.Unmapped]
  split_ifs <;> simp <;> omega

/-- An element in range lies at a mapped address. -/
theorem Element.InRange.not_unmapped {s : State} {a : Word} {e : Element} (hr : e.InRange s.dataWords)
    (ha : a.toNat = e.address) : ¬ s.Unmapped a := by
  rw [State.Unmapped, ha]
  cases e <;> simp only [Element.address, Element.InRange] at hr ⊢ <;> omega

/-- The map lists each element in range at its own address, and nothing else. -/
theorem addressMap_eq_some_iff {s : State} {a : Word} {e : Element} :
    addressMap s.dataWords a = some e ↔ a.toNat = e.address ∧ e.InRange s.dataWords := by
  have listed : ∀ e, addressMap s.dataWords a = some e → a.toNat = e.address ∧ e.InRange s.dataWords := by
    intro e h
    simp only [addressMap] at h
    repeat' split at h
    all_goals cases h
    all_goals simp only [Element.address, Element.InRange, and_true]
    all_goals omega
  refine ⟨listed e, fun ⟨ha, hr⟩ => ?_⟩
  obtain ⟨e', he'⟩ := Option.ne_none_iff_exists'.mp (mt (addressMap_eq_none_iff s a).mp (hr.not_unmapped ha))
  rw [he', Element.address_injective ((listed e' he').1.symm.trans ha)]

theorem writable_iff {s : State} {a : Word} {e : Element} (h : addressMap s.dataWords a = some e) :
    e.Writable ↔ a ≠ 0 ∧ ¬ ReadOnlyAddress a := by
  obtain ⟨ha, -⟩ := addressMap_eq_some_iff.mp h
  rw [Ne, eq_zero_iff_toNat, ReadOnlyAddress, ha]
  cases e <;> simp [Element.address, Element.Writable] <;> omega

/-! ## Reads (R53) -/

/-- What the host is told when it reads an address that names this word, or none. -/
def readResponse (word : Option Word) : HostResponse :=
  match word with
  | some w => .word w
  | none => .busError

theorem hostRead_eq (a : Word) (s : State) : hostRead a s = { s with response := readResponse (s.busWord a) } := by
  rcases hostRead_cases a s with ⟨w, hw, hr⟩ | ⟨hw, hr⟩ <;> rw [hr, hw] <;> rfl

theorem busWord_of_addressMap {s : State} {a : Word} {e : Element} (h : addressMap s.dataWords a = some e) :
    s.busWord a = some (s.element e) := by
  rw [State.busWord, h, Option.map_some]

theorem step_read {s : State} {a : Word} {rest : List HostStep} (hr : s.requests = .read a :: rest) :
    step s = .next { s with requests := rest, response := readResponse (s.busWord a) } := by
  rw [step_pending hr, hostStep, hostRead_eq]
  rfl

theorem readResponse_element {s : State} {a : Word} (e : Element) (he : e.InRange s.dataWords)
    (ha : a.toNat = e.address) : readResponse (s.busWord a) = .word (s.element e) := by
  rw [busWord_of_addressMap (addressMap_eq_some_iff.mpr ⟨ha, he⟩), readResponse]

theorem readResponse_unmapped {s : State} {a : Word} (hu : s.Unmapped a) : readResponse (s.busWord a) = .busError := by
  rw [State.busWord, (addressMap_eq_none_iff s a).mpr hu, Option.map_none, readResponse]

/-- Settles O8, by the element each address names. -/
theorem hostReadStep : Obligations.HostReadStep := by
  intro s a rest hr
  refine ⟨_, step_read hr, readResponse_element .cmd trivial, readResponse_element .status trivial,
    readResponse_element .kstag trivial, readResponse_element .config trivial, fun i hi ha => ?_, fun i hi ha => ?_,
    fun i hi ha => ?_, fun i hi ha => ?_, fun i hi => readResponse_element (.data i) hi, readResponse_unmapped⟩
  · rw [keyWord_eq s i hi]; exact readResponse_element (.key ⟨i, hi⟩) trivial ha
  · rw [chainWord_eq s i hi]; exact readResponse_element (.chain ⟨i, hi⟩) trivial ha
  · rw [ksfWord_eq s i hi]; exact readResponse_element (.ksf ⟨i, hi⟩) trivial ha
  · rw [ksiWord_eq s i hi]; exact readResponse_element (.ksi ⟨i, hi⟩) trivial ha

/-! ## Writes (R54) -/

/-- The state with the word of a writable element replaced; no other element can be set. -/
def State.setElement (s : State) (e : Element) (v : Word) : State :=
  match e with
  | .key i => { s with key := s.key.set i v }
  | .chain i => { s with chain := s.chain.set i v }
  | .data i => { s with data := s.data.set i v }
  | _ => s

@[simp] theorem State.setElement_config (s : State) (e : Element) (v : Word) :
    (s.setElement e v).config = s.config := by
  cases e <;> rfl

@[simp] theorem State.setElement_requests (s : State) (e : Element) (v : Word) :
    (s.setElement e v).requests = s.requests := by
  cases e <;> rfl

/-- The element set holds the word, and every other element what it held. -/
theorem element_setElement {s : State} {e : Element} (hw : e.Writable) (hr : e.InRange s.data.length) (v : Word)
    (e' : Element) : (s.setElement e v).element e' = if e' = e then v else s.element e' := by
  by_cases h : e' = e
  · subst h
    rw [if_pos rfl]
    cases e' with
    | key i => exact Vector.getElem_set_self i.isLt
    | chain i => exact Vector.getElem_set_self i.isLt
    | data i =>
      have hi : i < s.data.length := hr
      simp [State.element, State.setElement, hi]
    | _ => exact hw.elim
  · rw [if_neg h]
    cases e with
    | key i =>
      cases e' with
      | key j => exact Vector.getElem_set_ne i.isLt j.isLt fun hij => h (congrArg Element.key (Fin.ext hij.symm))
      | _ => rfl
    | chain i =>
      cases e' with
      | chain j => exact Vector.getElem_set_ne i.isLt j.isLt fun hij => h (congrArg Element.chain (Fin.ext hij.symm))
      | _ => rfl
    | data i =>
      cases e' with
      | data j =>
        have hij : i ≠ j := fun hij => h (congrArg Element.data hij.symm)
        simp [State.element, State.setElement, List.getElem?_set_ne hij]
      | _ => rfl
    | _ => exact hw.elim

theorem hostWrite_of_writable {s : State} {a : Word} {e : Element} (h : addressMap s.dataWords a = some e)
    (hw : e.Writable) (v : Word) : hostWrite a v s = { s.setElement e v with response := .written } := by
  rw [hostWrite, h]
  cases e with
  | key | chain | data => rfl
  | _ => exact hw.elim

theorem hostWrite_of_not_writable {s : State} {a : Word} (h : ∀ e, addressMap s.dataWords a = some e → ¬ e.Writable)
    (v : Word) : hostWrite a v s = { s with response := .busError } := by
  rcases hostWrite_cases a v s with ⟨i, hi, -⟩ | ⟨i, hi, -⟩ | ⟨i, hi, -, -⟩ | hw
  · exact absurd trivial (h _ hi)
  · exact absurd trivial (h _ hi)
  · exact absurd trivial (h _ hi)
  · exact hw

theorem step_write {s : State} {a v : Word} {rest : List HostStep} (hr : s.requests = .write a v :: rest)
    (ha : a ≠ 0) : step s = .next (hostWrite a v { s with requests := rest }) := by
  rw [step_pending hr, hostStep, if_neg ha]

theorem step_write_cmd {s : State} {v : Word} {rest : List HostStep} (hr : s.requests = .write 0 v :: rest) :
    step s = executeCommand v { s with requests := rest } := by
  rw [step_pending hr, hostStep, if_pos rfl]

theorem step_write_element {s : State} {a v : Word} {rest : List HostStep} {e : Element}
    (hr : s.requests = .write a v :: rest) (hw : e.Writable) (h : addressMap s.dataWords a = some e) :
    step s = .next { ({ s with requests := rest } : State).setElement e v with response := .written } := by
  obtain ⟨ha, -⟩ := (writable_iff h).mp hw
  rw [step_write hr ha]
  exact congrArg _ (hostWrite_of_writable (s := { s with requests := rest }) h hw v)

/-- Settles O9, by the element each address names. -/
theorem hostWriteStep : Obligations.HostWriteStep := by
  intro s a v rest hr
  refine ⟨fun i hi ha => ?_, fun i hi ha => ?_, fun i hi ha => ?_, fun ha => ?_, fun hbad => ?_⟩
  · exact step_write_element (e := .key ⟨i, hi⟩) hr trivial (addressMap_eq_some_iff.mpr ⟨ha, trivial⟩)
  · exact step_write_element (e := .chain ⟨i, hi⟩) hr trivial (addressMap_eq_some_iff.mpr ⟨ha, trivial⟩)
  · exact step_write_element (e := .data i) hr trivial (addressMap_eq_some_iff.mpr ⟨ha, hi⟩)
  · obtain rfl := (eq_zero_iff_toNat a).mpr ha
    exact step_write_cmd hr
  · have ha : a ≠ 0 := by
      rintro rfl
      simp [ReadOnlyAddress, State.Unmapped] at hbad
    rw [step_write hr ha, hostWrite_of_not_writable]
    intro e he hw
    rcases hbad with hro | hu
    · exact ((writable_iff he).mp hw).2 hro
    · cases ((addressMap_eq_none_iff s a).mpr hu).symm.trans he

/-! ## Bus errors (R55) -/

theorem ExecResult.response_eq {s t : State} (h : ExecResult s t) : t.response = s.response := by cases h <;> rfl

/-- Settles O10: a reset and a command answer otherwise, and a refused read or write changes the response only. -/
theorem busErrorChangesNothing : Obligations.BusErrorChangesNothing := by
  intro s t h rest hr ht hbus
  rw [step_pending hr] at ht
  cases h with
  | reset => cases ht; cases hbus
  | read a =>
    cases ht
    rcases hostRead_cases a { s with requests := rest } with ⟨w, -, hread⟩ | ⟨-, hread⟩ <;> rw [hread] at hbus ⊢
    cases hbus
  | write a v =>
    by_cases ha : a = 0
    · obtain ⟨u, hu, he⟩ := executeCommand_result v { s with requests := rest }
      rw [hostStep, if_pos ha, hu] at ht
      cases ht
      cases he.response_eq.symm.trans hbus
    · rw [hostStep, if_neg ha] at ht
      cases ht
      rcases hostWrite_cases a v { s with requests := rest } with ⟨i, -, hw⟩ | ⟨i, -, hw⟩ | ⟨i, -, -, hw⟩ | hw <;>
        rw [hw] at hbus ⊢ <;> cases hbus

/-! ## A read after a write (R61) -/

/-- Addresses name different elements, so a write changes the word of its own address only. -/
theorem busWord_setElement {s : State} {a : Word} {e : Element} (hwf : Memory.wf s = true) (hw : e.Writable)
    (h : addressMap s.dataWords a = some e) (v b : Word) :
    (s.setElement e v).busWord b = if b = a then some v else s.busWord b := by
  obtain ⟨ha, hr⟩ := addressMap_eq_some_iff.mp h
  rw [← (wf_iff s).mp hwf] at hr
  rw [State.busWord, State.busWord, dataWords_congr (State.setElement_config s e v)]
  cases hb : addressMap s.dataWords b with
  | none =>
    have hne : b ≠ a := by rintro rfl; cases hb.symm.trans h
    rw [if_neg hne]; rfl
  | some e' =>
    have heq : e' = e ↔ b = a := by
      constructor
      · rintro rfl
        exact BitVec.eq_of_toNat_eq ((addressMap_eq_some_iff.mp hb).1.trans ha.symm)
      · rintro rfl
        exact Option.some.inj (hb.symm.trans h)
    rw [Option.map_some, Option.map_some, element_setElement hw hr, if_congr heq rfl rfl]
    split <;> rfl

/-- Settles O13, by the step of the write, the step of the read, and the word on the bus between them. -/
theorem readAfterWrite : Obligations.ReadAfterWrite := by
  intro s a b v rest hwf hr ha hro hmap
  obtain ⟨e, he⟩ := Option.ne_none_iff_exists'.mp (mt (addressMap_eq_none_iff s a).mp hmap)
  have hw : e.Writable := (writable_iff he).mpr ⟨ha, hro⟩
  refine ⟨_, _, step_write_element hr hw he, step_read (State.setElement_requests _ e v), rfl, ?_⟩
  have hword := busWord_setElement (s := { s with requests := .read b :: rest }) hwf hw he v b
  refine (congrArg readResponse hword).trans ?_
  split <;> rfl

end Sys2Proof.Machine
end

section
/-! PROOFS. Decoding and encoding (30_encoding.md): the fields of a command word (R72, R76), the words that decode and the
errors of the others (R71), the rows of the opcode map (R80) and the words outside of it (R78). -/

namespace Sys2Proof.Machine

/-! ## A word and its fields (R72, R76) -/

/-- The seven fields make up the word. -/
theorem toNat_eq_sum_bitsOf (v : Word) :
    v.toNat = bitsOf v 0 2 + 4 * bitsOf v 2 2 + 16 * bitsOf v 4 3 + 128 * bitsOf v 7 1 + 256 * bitsOf v 8 4 +
      4096 * bitsOf v 12 4 + 65536 * bitsOf v 16 16 := by
  have hlt := v.isLt
  simp only [bitsOf]
  omega

/-- The fields of `v` are these, and its reserved bits are 0. -/
structure FieldsAre (v : Word) (op c : BitVec 2) (m : BitVec 3) (kw n : Nat) : Prop where
  op : fieldOp v = op
  cipher : fieldCipher v = c
  mode : fieldMode v = m
  reserved7 : fieldReserved7 v = 0
  keywords : (fieldKeywords v).toNat = kw
  reserved12 : fieldReserved12 v = 0
  nwords : (fieldNwords v).toNat = n

theorem bitsOf_of_toNat {v : Word} {op c m kw n : Nat} (hop : op < 4) (hc : c < 4) (hm : m < 8) (hk : kw < 16)
    (hn : n < 65536) (hsum : v.toNat = op + 4 * c + 16 * m + 256 * kw + 65536 * n) :
    bitsOf v 0 2 = op ∧ bitsOf v 2 2 = c ∧ bitsOf v 4 3 = m ∧ bitsOf v 7 1 = 0 ∧ bitsOf v 8 4 = kw ∧
      bitsOf v 12 4 = 0 ∧ bitsOf v 16 16 = n := by
  simp only [bitsOf, hsum]
  refine ⟨?_, ?_, ?_, ?_, ?_, ?_, ?_⟩ <;> omega

theorem fieldsAre_assembleWord (op c : BitVec 2) (m : BitVec 3) {kw n : Nat} (hk : kw < 16) (hn : n < 65536) :
    FieldsAre (assembleWord op c m kw n) op c m kw n := by
  obtain ⟨fop, fc, fm, f7, fkw, f12, fn⟩ := fields_toNat (assembleWord op c m kw n)
  obtain ⟨hop, hc, hm, h7, hkw, h12, hnw⟩ :=
    bitsOf_of_toNat op.isLt c.isLt m.isLt hk hn (assembleWord_toNat op c m kw n hk hn)
  exact {
    op := BitVec.eq_of_toNat_eq (fop.trans hop)
    cipher := BitVec.eq_of_toNat_eq (fc.trans hc)
    mode := BitVec.eq_of_toNat_eq (fm.trans hm)
    reserved7 := (eq_zero_iff_toNat _).mpr (f7.trans h7)
    keywords := fkw.trans hkw
    reserved12 := (eq_zero_iff_toNat _).mpr (f12.trans h12)
    nwords := fn.trans hnw }

theorem FieldsAre.eq_assembleWord {v : Word} {op c : BitVec 2} {m : BitVec 3} {kw n : Nat}
    (h : FieldsAre v op c m kw n) : v = assembleWord op c m kw n := by
  obtain ⟨rfl, rfl, rfl, h7, rfl, h12, rfl⟩ := h
  obtain ⟨fop, fc, fm, f7, fkw, f12, fn⟩ := fields_toNat v
  rw [eq_zero_iff_toNat] at h7 h12
  apply BitVec.eq_of_toNat_eq
  rw [assembleWord_toNat _ _ _ _ _ (fieldKeywords v).isLt (fieldNwords v).isLt, toNat_eq_sum_bitsOf v]
  omega

/-! ## Decoding (R71) -/

/-- `v` is the word of `i` in one of the three formats of R76, told by its fields. -/
inductive IsWordOf (v : Word) : Instr → Prop where
  | keyexp (c : Cipher) (kw : Nat) (h : FieldsAre v 0 c.code 0 kw 0) : IsWordOf v (keyexpOf c kw)
  | invkey (h : FieldsAre v 1 Cipher.aes.code 0 0 0) : IsWordOf v .invkeyAes
  | enc (m : Mode) (c : Cipher) (n : Nat) (h : FieldsAre v 2 c.code m.code 0 n) : IsWordOf v (encOf m c n)
  | dec (m : Mode) (c : Cipher) (n : Nat) (h : FieldsAre v 3 c.code m.code 0 n) : IsWordOf v (decOf m c n)

/-- The words of the three formats decode. -/
theorem IsWordOf.decode_eq {v : Word} {i : Instr} (h : IsWordOf v i) : decode v = .ok i := by
  cases h with
  | keyexp c kw h =>
    obtain ⟨hop, hc, hm, h7, hkw, h12, hn⟩ := h
    replace hn := (eq_zero_iff_toNat _).mpr hn
    simp [decode, hop, hc, hm, h7, hkw, h12, hn]
  | invkey h =>
    obtain ⟨hop, hc, hm, h7, hkw, h12, hn⟩ := h
    replace hkw := (eq_zero_iff_toNat _).mpr hkw
    replace hn := (eq_zero_iff_toNat _).mpr hn
    simp [decode, hop, hc, hm, h7, hkw, h12, hn, Cipher.code]
  | enc m c n h | dec m c n h =>
    obtain ⟨hop, hc, hm, h7, hkw, h12, hn⟩ := h
    replace hkw := (eq_zero_iff_toNat _).mpr hkw
    simp [decode, hop, hc, hm, h7, hkw, h12, hn]

/-- The checks of R71 that end in `IllegalCommand`, over the fields as numbers. -/
def IllegalFields (v : Word) : Prop :=
  (bitsOf v 7 1 ≠ 0 ∨ bitsOf v 12 4 ≠ 0) ∨ (bitsOf v 0 2 = 0 ∧ (bitsOf v 4 3 ≠ 0 ∨ bitsOf v 16 16 ≠ 0)) ∨
    (bitsOf v 0 2 = 1 ∧ (bitsOf v 4 3 ≠ 0 ∨ bitsOf v 16 16 ≠ 0 ∨ bitsOf v 8 4 ≠ 0 ∨ bitsOf v 2 2 ≠ 0)) ∨
    (2 ≤ bitsOf v 0 2 ∧ bitsOf v 8 4 ≠ 0)

theorem two_le_toNat_iff (op : BitVec 2) : 2 ≤ op.toNat ↔ op ≠ 0 ∧ op ≠ 1 := by revert op; decide

theorem toNat_eq_one_iff (op : BitVec 2) : op.toNat = 1 ↔ op = 1 := by revert op; decide

theorem illegalFields_iff (v : Word) : IllegalFields v ↔
    (fieldReserved7 v ≠ 0 ∨ fieldReserved12 v ≠ 0) ∨ (fieldOp v = 0 ∧ (fieldMode v ≠ 0 ∨ fieldNwords v ≠ 0)) ∨
      (fieldOp v = 1 ∧ (fieldMode v ≠ 0 ∨ fieldNwords v ≠ 0 ∨ fieldKeywords v ≠ 0 ∨ fieldCipher v ≠ 0)) ∨
      ((fieldOp v ≠ 0 ∧ fieldOp v ≠ 1) ∧ fieldKeywords v ≠ 0) := by
  obtain ⟨fop, fc, fm, f7, fkw, f12, fn⟩ := fields_toNat v
  simp only [IllegalFields, ← fop, ← fc, ← fm, ← f7, ← fkw, ← f12, ← fn, ← eq_zero_iff_toNat, two_le_toNat_iff,
    toNat_eq_one_iff, ne_eq]

theorem decode_of_illegalFields {v : Word} (h : IllegalFields v) : decode v = .error .illegalCommand := by
  rcases (illegalFields_iff v).mp h with h | ⟨hop, h⟩ | ⟨hop, h⟩ | ⟨⟨h0, h1⟩, h⟩
  · simp only [decode, if_pos h]
  · simp only [decode, if_pos hop, if_pos h, ite_self]
  · have h0 : fieldOp v ≠ 0 := by rw [hop]; decide
    simp only [decode, if_neg h0, if_pos hop, if_pos h, ite_self]
  · simp only [decode, if_neg h0, if_neg h1, if_pos h, ite_self]

/-- A word in which only `MODE` is wrong: 5, 6 or 7 in an `ENC` or `DEC` (R74, R78). -/
theorem decode_of_unnamed_mode {v : Word} (h : ¬ IllegalFields v) (hop : 2 ≤ bitsOf v 0 2) (hm : 4 < bitsOf v 4 3) :
    decode v = .error .unsupportedMode := by
  obtain ⟨fop, -, fm, -⟩ := fields_toNat v
  rw [← fop, two_le_toNat_iff] at hop
  rw [← fm, ← modeOf_eq_none_iff] at hm
  rw [illegalFields_iff] at h
  obtain ⟨hop0, hop1⟩ := hop
  have hreserved : ¬ (fieldReserved7 v ≠ 0 ∨ fieldReserved12 v ≠ 0) := fun hr => h (.inl hr)
  have hkw : ¬ fieldKeywords v ≠ 0 := fun hne => h (.inr (.inr (.inr ⟨⟨hop0, hop1⟩, hne⟩)))
  simp only [decode, if_neg hreserved, if_neg hop0, if_neg hop1, if_neg hkw, hm]

/-- A word that passes every check of R71 has the fields of a command. -/
theorem isWordOf_of_legal {v : Word} (h : ¬ IllegalFields v) (hm : 2 ≤ bitsOf v 0 2 → bitsOf v 4 3 ≤ 4) :
    ∃ i, IsWordOf v i := by
  obtain ⟨fop, -, fm, -⟩ := fields_toNat v
  rw [← fop, ← fm, two_le_toNat_iff] at hm
  rw [illegalFields_iff] at h
  push Not at h
  obtain ⟨⟨h7, h12⟩, h0, h1, h2⟩ := h
  have hc := (code_cipherOf (fieldCipher v)).symm
  have hops : fieldOp v = 0 ∨ fieldOp v = 1 ∨ fieldOp v = 2 ∨ fieldOp v = 3 := by
    generalize fieldOp v = op; revert op; decide
  rcases hops with hop | hop | hop | hop
  · obtain ⟨hmode, hn⟩ := h0 hop
    exact ⟨_, .keyexp (cipherOf (fieldCipher v)) _ ⟨hop, hc, hmode, h7, rfl, h12, by rw [hn]; rfl⟩⟩
  · obtain ⟨hmode, hn, hkw, hcipher⟩ := h1 hop
    exact ⟨_, .invkey ⟨hop, hcipher, hmode, h7, by rw [hkw]; rfl, h12, by rw [hn]; rfl⟩⟩
  all_goals
    have hop2 : fieldOp v ≠ 0 ∧ fieldOp v ≠ 1 := by rw [hop]; decide
    have hkw : (fieldKeywords v).toNat = 0 := by rw [h2 hop2]; rfl
    obtain ⟨mode, hmode⟩ := Option.ne_none_iff_exists'.mp (mt (modeOf_eq_none_iff _).mp (not_lt.mpr (hm hop2)))
    have hcode := ((modeOf_eq_some_iff _ _).mp hmode).symm
  · exact ⟨_, .enc mode (cipherOf (fieldCipher v)) _ ⟨hop, hc, hcode, h7, hkw, h12, rfl⟩⟩
  · exact ⟨_, .dec mode (cipherOf (fieldCipher v)) _ ⟨hop, hc, hcode, h7, hkw, h12, rfl⟩⟩

/-- All that decoding can answer. -/
theorem decode_cases (v : Word) :
    decode v = .error .illegalCommand ∨ decode v = .error .unsupportedMode ∨ ∃ i, IsWordOf v i := by
  by_cases h : IllegalFields v
  · exact .inl (decode_of_illegalFields h)
  by_cases hm : 2 ≤ bitsOf v 0 2 ∧ 4 < bitsOf v 4 3
  · exact .inr (.inl (decode_of_unnamed_mode h hm.1 hm.2))
  · exact .inr (.inr (isWordOf_of_legal h fun hop => not_lt.mp fun hlt => hm ⟨hop, hlt⟩))

/-- Only the words of the three formats decode. -/
theorem decode_eq_ok_iff {v : Word} {i : Instr} : decode v = .ok i ↔ IsWordOf v i := by
  refine ⟨fun h => ?_, IsWordOf.decode_eq⟩
  rcases decode_cases v with he | he | ⟨j, hj⟩
  · cases he.symm.trans h
  · cases he.symm.trans h
  · cases hj.decode_eq.symm.trans h
    exact hj

/-! ## Encoding (R76, R82) -/

/-- The operand of a `KEYEXP` is bounded by its field (R72). -/
theorem wellFormed_keyexpOf (c : Cipher) (kw : Nat) : (keyexpOf c kw).WellFormed ↔ kw < 16 := by cases c <;> rfl

theorem wellFormed_encOf (m : Mode) (c : Cipher) (n : Nat) : (encOf m c n).WellFormed ↔ n < 65536 := by
  cases m <;> cases c <;> rfl

theorem wellFormed_decOf (m : Mode) (c : Cipher) (n : Nat) : (decOf m c n).WellFormed ↔ n < 65536 := by
  cases m <;> cases c <;> rfl

theorem isWordOf_encode {i : Instr} (hwf : i.WellFormed) : IsWordOf (encode i) i := by
  rcases instr_cases i with ⟨c, kw, rfl⟩ | rfl | ⟨m, c, n, rfl⟩ | ⟨m, c, n, rfl⟩
  · rw [wellFormed_keyexpOf] at hwf
    rw [encode_keyexpOf]
    exact .keyexp c kw (fieldsAre_assembleWord _ _ _ hwf (by decide))
  · exact .invkey (fieldsAre_assembleWord _ _ _ (by decide) (by decide))
  · rw [wellFormed_encOf] at hwf
    rw [encode_encOf]
    exact .enc m c n (fieldsAre_assembleWord _ _ _ (by decide) hwf)
  · rw [wellFormed_decOf] at hwf
    rw [encode_decOf]
    exact .dec m c n (fieldsAre_assembleWord _ _ _ (by decide) hwf)

theorem IsWordOf.encode_eq {v : Word} {i : Instr} (h : IsWordOf v i) : encode i = v := by
  cases h with
  | keyexp c kw h => rw [encode_keyexpOf, formatK, ← h.eq_assembleWord]
  | invkey h => exact h.eq_assembleWord.symm
  | enc m c n h => rw [encode_encOf, formatEnc, ← h.eq_assembleWord]
  | dec m c n h => rw [encode_decOf, formatDec, ← h.eq_assembleWord]

theorem IsWordOf.wellFormed {v : Word} {i : Instr} (h : IsWordOf v i) : i.WellFormed := by
  cases h with
  | keyexp c kw h => rw [wellFormed_keyexpOf, ← h.keywords]; exact (fieldKeywords v).isLt
  | invkey h => trivial
  | enc m c n h => rw [wellFormed_encOf, ← h.nwords]; exact (fieldNwords v).isLt
  | dec m c n h => rw [wellFormed_decOf, ← h.nwords]; exact (fieldNwords v).isLt

/-- Settles O1: the word assembled for a command has that command's fields, and such a word decodes. -/
theorem decodeOfEncode : Obligations.DecodeOfEncode := fun _ hwf => (isWordOf_encode hwf).decode_eq

/-- Settles O2: only words with a command's fields decode, and the fields make up the word. -/
theorem encodeOfDecode : Obligations.EncodeOfDecode := fun _ _ h =>
  ⟨(decode_eq_ok_iff.mp h).wellFormed, (decode_eq_ok_iff.mp h).encode_eq⟩

/-- Settles O3, by the number of an assembled word; the seven examples are evaluated. -/
theorem encodingFields : Obligations.EncodingFields := by
  refine ⟨fun c kw hkw => ?_, rfl, fun m c n hn => ⟨?_, ?_⟩, by decide⟩
  · rw [encode_keyexpOf, formatK, assembleWord_toNat _ _ _ _ _ hkw (by decide)]
    simp
  · rw [encode_encOf, formatEnc, assembleWord_toNat _ _ _ _ _ (by decide) hn]
    simp
  · rw [encode_decOf, formatDec, assembleWord_toNat _ _ _ _ _ (by decide) hn]
    simp

/-- Settles O6: fifteen closed words, each of which decoding evaluates. -/
theorem sampleWordsDecode : Obligations.SampleWordsDecode := by
  unfold Obligations.SampleWordsDecode
  decide

/-! ## The opcode map (R80) -/

/-- A mask that covers a field leaves it as it is. -/
theorem extractLsb'_eq_of_and_eq {v k x : Word} {lo w : Nat} (h : v &&& k = x)
    (hk : k.extractLsb' lo w = BitVec.allOnes w) : v.extractLsb' lo w = x.extractLsb' lo w := by
  rw [← h, BitVec.extractLsb'_and, hk, BitVec.and_allOnes]

/-- The fields that the mask of every row but that of `INVKEY.AES` covers are those of the row's match. -/
theorem fieldsAre_of_and_eq {v k : Word} {op c : BitVec 2} {m : BitVec 3} (h : v &&& k = assembleWord op c m 0 0)
    (hk : fieldOp k = BitVec.allOnes 2 ∧ fieldCipher k = BitVec.allOnes 2 ∧ fieldMode k = BitVec.allOnes 3 ∧
      fieldReserved7 k = BitVec.allOnes 1 ∧ fieldReserved12 k = BitVec.allOnes 4) :
    FieldsAre v op c m (bitsOf v 8 4) (bitsOf v 16 16) := by
  obtain ⟨-, -, -, -, fkw, -, fn⟩ := fields_toNat v
  obtain ⟨kop, kc, km, k7, k12⟩ := hk
  have hx := fieldsAre_assembleWord op c m (kw := 0) (n := 0) (by decide) (by decide)
  exact {
    op := (extractLsb'_eq_of_and_eq h kop).trans hx.op
    cipher := (extractLsb'_eq_of_and_eq h kc).trans hx.cipher
    mode := (extractLsb'_eq_of_and_eq h km).trans hx.mode
    reserved7 := (extractLsb'_eq_of_and_eq h k7).trans hx.reserved7
    keywords := fkw
    reserved12 := (extractLsb'_eq_of_and_eq h k12).trans hx.reserved12
    nwords := fn }

/-- The mask of the `KEYEXP` rows covers `NWORDS` too. -/
theorem fieldsAre_of_and_keyexp_mask {v : Word} {op c : BitVec 2} {m : BitVec 3}
    (h : v &&& 0xFFFFF0FF = assembleWord op c m 0 0) : FieldsAre v op c m (bitsOf v 8 4) 0 :=
  have hx := fieldsAre_assembleWord op c m (kw := 0) (n := 0) (by decide) (by decide)
  { fieldsAre_of_and_eq h (by decide) with
    nwords := (congrArg BitVec.toNat (extractLsb'_eq_of_and_eq h (by decide))).trans hx.nwords }

/-- The mask of the `ENC` and `DEC` rows covers `KEYWORDS` too. -/
theorem fieldsAre_of_and_mode_mask {v : Word} {op c : BitVec 2} {m : BitVec 3}
    (h : v &&& 0x0000FFFF = assembleWord op c m 0 0) : FieldsAre v op c m 0 (bitsOf v 16 16) :=
  have hx := fieldsAre_assembleWord op c m (kw := 0) (n := 0) (by decide) (by decide)
  { fieldsAre_of_and_eq h (by decide) with
    keywords := (congrArg BitVec.toNat (extractLsb'_eq_of_and_eq h (by decide))).trans hx.keywords }

theorem keyexp_match_eq (c : Cipher) : (c.code.setWidth 32 <<< 2 : Word) = assembleWord 0 c.code 0 0 0 := by
  cases c <;> rfl

theorem enc_match_eq (m : Mode) (c : Cipher) :
    (0x02 ||| c.code.setWidth 32 <<< 2 ||| m.code.setWidth 32 <<< 4 : Word) = assembleWord 2 c.code m.code 0 0 := by
  cases m <;> cases c <;> rfl

theorem dec_match_eq (m : Mode) (c : Cipher) :
    (0x03 ||| c.code.setWidth 32 <<< 2 ||| m.code.setWidth 32 <<< 4 : Word) = assembleWord 3 c.code m.code 0 0 := by
  cases m <;> cases c <;> rfl

/-- The word of every command is a word of the command's own row. -/
theorem encode_and_rowMask (i : Instr) : encode i &&& rowMask i = rowMatch i := by
  rcases instr_cases i with ⟨c, kw, rfl⟩ | rfl | ⟨m, c, n, rfl⟩ | ⟨m, c, n, rfl⟩
  · rw [encode_keyexpOf, formatK]
    cases c <;> exact (Laws.RowMatch.mask_keywords _ _ _ kw).trans rfl
  · rfl
  · rw [encode_encOf, formatEnc]
    cases m <;> cases c <;> exact (Laws.RowMatch.mask_nwords _ _ _ 0 n).trans rfl
  · rw [encode_decOf, formatDec]
    cases m <;> cases c <;> exact (Laws.RowMatch.mask_nwords _ _ _ 0 n).trans rfl

theorem IsWordOf.and_rowMask {v : Word} {i : Instr} (h : IsWordOf v i) : v &&& rowMask i = rowMatch i := by
  rw [← h.encode_eq, encode_and_rowMask]

/-- Settles O4: each row's mask fixes every field but the operand, and the word a command encodes to is of its row. -/
theorem opcodeMapRows : Obligations.OpcodeMapRows := by
  intro v
  refine ⟨fun c h => ?_, fun h => ?_, fun m c h => ?_, fun m c h => ?_, fun i h => ?_⟩
  · rw [keyexp_match_eq] at h
    exact (IsWordOf.keyexp c _ (fieldsAre_of_and_keyexp_mask h)).decode_eq
  · have hv : v = encode .invkeyAes := (BitVec.and_allOnes (x := v)).symm.trans h
    rw [hv]
    exact decodeOfEncode _ trivial
  · rw [enc_match_eq] at h
    exact (IsWordOf.enc m c _ (fieldsAre_of_and_mode_mask h)).decode_eq
  · rw [dec_match_eq] at h
    exact (IsWordOf.dec m c _ (fieldsAre_of_and_mode_mask h)).decode_eq
  · exact (decode_eq_ok_iff.mp h).and_rowMask

/-! ## Words outside of the map (R78) -/

theorem refusesWord_of_decode_error {v : Word} {e : CommandError} (h : decode v = .error e) (s : State) :
    s.RefusesWord v (statusWord (errorCode e)) :=
  executeCommand_error h s

/-- Settles O5: the five illegal cases of R78 are those of R71's checks, the sixth is the mode that is not named, and a
word of no row does not decode. -/
theorem undefinedWordsAreRefused : Obligations.UndefinedWordsAreRefused := by
  intro v s
  have illegal : IllegalFields v → s.RefusesWord v 6 := fun h =>
    refusesWord_of_decode_error (decode_of_illegalFields h) s
  refine ⟨fun h => illegal (.inl h), fun hop h => illegal (.inr (.inl ⟨hop, h⟩)), fun hop h => ?_,
    fun hop hc => illegal (.inr (.inr (.inl ⟨hop, .inr (.inr (.inr hc))⟩))),
    fun hop h => illegal (.inr (.inr (.inr ⟨hop, h⟩))), fun hop hm h7 h12 hkw => ?_, fun hrow => ?_⟩
  · exact illegal (.inr (.inr (.inl ⟨hop, h.imp_right (.imp_right .inl)⟩)))
  · refine refusesWord_of_decode_error (decode_of_unnamed_mode ?_ hop hm) s
    rw [IllegalFields]
    omega
  · rcases decode_cases v with h | h | ⟨i, h⟩
    · exact .inl (refusesWord_of_decode_error h s)
    · exact .inr (refusesWord_of_decode_error h s)
    · exact absurd h.and_rowMask (hrow i)

end Sys2Proof.Machine
end

section
/-! PROOFS. The AES key schedules (40_aes_key_schedule.md): the expansion word by word (R103, R104), the key sizes a
`KEYEXP` refuses (R101), `InvMixWord` as InvMixColumns (R108), and the inverse schedule of `INVKEY.AES` (R109, R110). -/

namespace Sys2Proof.Machine

/-! ## The expansion (R103, R104) -/

section
variable (nk : Nat) (key : Nat → Word) {n i : Nat}

/-- Word `i` of the expansion is what R103 computes from the words before it. -/
theorem getD_aesExpand (h : i < n) :
    (aesExpand nk key n).getD i 0 = aesExpandNext nk key (aesExpand nk key i) := by
  rw [getD_aesExpand_of_le nk key (Nat.lt_succ_self i) h, getD_aesExpand_last]

/-- The expansion begins with the key. -/
theorem getD_aesExpand_of_lt (h : i < n) (hi : i < nk) : (aesExpand nk key n).getD i 0 = key i := by
  rw [getD_aesExpand nk key h, aesExpandNext, length_aesExpand, if_pos hi]

/-- The recurrence of R103 between the words of one expansion. -/
theorem getD_aesExpand_recurrence (h : i < n) (hnk : 0 < nk) (hi : nk ≤ i) :
    (aesExpand nk key n).getD i 0 =
      (aesExpand nk key n).getD (i - nk) 0 ^^^ aesExpandTemp nk i ((aesExpand nk key n).getD (i - 1) 0) := by
  rw [getD_aesExpand nk key h, aesExpandNext, length_aesExpand, if_neg (not_lt.mpr hi),
    getD_aesExpand_of_le nk key (by omega : i - nk < i) h.le, getD_aesExpand_of_le nk key (by omega : i - 1 < i) h.le]

end

theorem ksfWord_installSchedule (c : Cipher) (kw : Nat) (ws : List Word) (s : State) (i : Nat) :
    (installSchedule c kw ws s).ksfWord i = if i < ws.length ∧ i < 1042 then ws.getD i 0 else s.ksfWord i :=
  ksfWord_storeKsf s ws i

/-- Every element but `KSF`, `KSTAG` and `STATUS` is as before. -/
theorem installSchedule_frame (c : Cipher) (kw : Nat) (ws : List Word) (s : State) :
    installSchedule c kw ws s =
      { s with ksf := (installSchedule c kw ws s).ksf, kstag := kstagWord c (roundCount c kw), status := 0 } := rfl

/-- Settles O25: `KSF` holds the expansion, whose words satisfy the recurrence. -/
theorem keyexpAesExpandsKey : Obligations.KeyexpAesExpandsKey := by
  intro s kw hkw
  have hsize : kw ∈ keySizes .aes := by simpa using hkw
  have hpos : 0 < kw := by omega
  have hlen : (scheduleOf .aes kw s).length = 4 * (kw + 7) := length_aesExpand kw s.keyWord _
  have htag : kstagWord .aes (roundCount .aes kw) = if kw = 4 then 0x128 else if kw = 6 then 0x130 else 0x138 := by
    rcases hkw with rfl | rfl | rfl <;> rfl
  have hword : ∀ i < 4 * (kw + 7), (installSchedule .aes kw (scheduleOf .aes kw s) s).ksfWord i =
      (aesExpand kw s.keyWord (4 * (kw + 7))).getD i 0 := fun i hi => by
    rw [ksfWord_installSchedule, if_pos ⟨by rwa [hlen], by omega⟩]
    rfl
  refine ⟨_, (exec_keyexpOf .aes kw s).trans (if_pos hsize), fun i hi => ?_, fun i hi hn => ?_, fun i hn => ?_, ?_⟩
  · rw [hword i (by omega), getD_aesExpand_of_lt kw _ (by omega) hi]
  · rw [hword i hn, hword (i - kw) (by omega), hword (i - 1) (by omega)]
    exact getD_aesExpand_recurrence kw _ hn hpos hi
  · rw [ksfWord_installSchedule, if_neg (by omega)]
  · rw [← htag]
    exact installSchedule_frame _ _ _ _

/-! ## Refused key sizes (R101) -/

theorem exec_keyexpOf_of_unsupported {c : Cipher} {kw : Nat} (h : kw ∉ keySizes c) (s : State) :
    exec (keyexpOf c kw) s = .next { s with status := 1 } :=
  (exec_keyexpOf c kw s).trans (if_neg h)

/-- The word of a `KEYEXP` has the cipher's code and the key size in its fields and is 0 elsewhere (R76). -/
theorem ofNat_eq_encode_keyexpOf (c : Cipher) {kw : Nat} (h : kw < 16) :
    BitVec.ofNat 32 (4 * c.code.toNat + 256 * kw) = encode (keyexpOf c kw) := by
  obtain ⟨hfields, -⟩ := encodingFields
  rw [← hfields c kw h, BitVec.ofNat_toNat, BitVec.setWidth_eq]

/-- Settles O26: a key size outside the supported set is refused, and the word named is that of the command. -/
theorem unsupportedKeySizeIsRefused : Obligations.UnsupportedKeySizeIsRefused := by
  refine ⟨fun s kw h4 h6 h8 => ?_, fun c s kw h => exec_keyexpOf_of_unsupported h s, fun c kw h => ?_⟩
  · have hsize : kw ∉ keySizes .aes := by simp [h4, h6, h8]
    exact exec_keyexpOf_of_unsupported hsize s
  · rw [ofNat_eq_encode_keyexpOf c h]
    exact decodeOfEncode _ ((wellFormed_keyexpOf c kw).mpr h)

/-! ## `InvMixWord` (R108) -/

@[simp] theorem byteOf_xor (k : Nat) (x y : Word) : byteOf k (x ^^^ y) = byteOf k x ^^^ byteOf k y :=
  BitVec.extractLsb'_xor

section
variable (a b c d : Byte)

@[simp] theorem byteOf_zero_w4 : byteOf 0 (w4 a b c d) = a := BitVec.extractLsb'_append_eq_left

@[simp] theorem byteOf_one_w4 : byteOf 1 (w4 a b c d) = b :=
  (BitVec.extractLsb'_append_eq_of_add_le (by decide)).trans BitVec.extractLsb'_append_eq_left

@[simp] theorem byteOf_two_w4 : byteOf 2 (w4 a b c d) = c :=
  (BitVec.extractLsb'_append_eq_of_add_le (by decide)).trans
    ((BitVec.extractLsb'_append_eq_of_add_le (by decide)).trans BitVec.extractLsb'_append_eq_left)

@[simp] theorem byteOf_three_w4 : byteOf 3 (w4 a b c d) = d :=
  (BitVec.extractLsb'_append_eq_of_add_le (by decide)).trans
    ((BitVec.extractLsb'_append_eq_of_add_le (by decide)).trans BitVec.extractLsb'_append_eq_right)

end

/-- The table lookups after `SBOX` are the columns of InvMixColumns (R265): the S-boxes cancel. -/
theorem invSubMix_sbox (x : Byte) :
    invSubMix 0 (sbox x) = w4 (gmul x 14) (gmul x 9) (gmul x 13) (gmul x 11) ∧
    invSubMix 1 (sbox x) = w4 (gmul x 11) (gmul x 14) (gmul x 9) (gmul x 13) ∧
    invSubMix 2 (sbox x) = w4 (gmul x 13) (gmul x 11) (gmul x 14) (gmul x 9) ∧
    invSubMix 3 (sbox x) = w4 (gmul x 9) (gmul x 13) (gmul x 11) (gmul x 14) := by
  simpa only [invSbox_sbox] using invSubMix_eq (sbox x)

/-- `InvMixWord` is the sum of the four columns of InvMixColumns, one for each byte. -/
theorem invMixWord_eq (t : Word) :
    invMixWord t =
      w4 (gmul (byteOf 0 t) 14) (gmul (byteOf 0 t) 9) (gmul (byteOf 0 t) 13) (gmul (byteOf 0 t) 11) ^^^
      w4 (gmul (byteOf 1 t) 11) (gmul (byteOf 1 t) 14) (gmul (byteOf 1 t) 9) (gmul (byteOf 1 t) 13) ^^^
      w4 (gmul (byteOf 2 t) 13) (gmul (byteOf 2 t) 11) (gmul (byteOf 2 t) 14) (gmul (byteOf 2 t) 9) ^^^
      w4 (gmul (byteOf 3 t) 9) (gmul (byteOf 3 t) 13) (gmul (byteOf 3 t) 11) (gmul (byteOf 3 t) 14) := by
  obtain ⟨h0, -, -, -⟩ := invSubMix_sbox (byteOf 0 t)
  obtain ⟨-, h1, -, -⟩ := invSubMix_sbox (byteOf 1 t)
  obtain ⟨-, -, h2, -⟩ := invSubMix_sbox (byteOf 2 t)
  obtain ⟨-, -, -, h3⟩ := invSubMix_sbox (byteOf 3 t)
  rw [invMixWord, h0, h1, h2, h3]

/-- Settles O28: each byte of the sum of the four columns is a row of InvMixColumns. -/
theorem invMixWordIsInvMixColumns : Obligations.InvMixWordIsInvMixColumns := by
  intro t b
  refine ⟨rfl, ?_, ?_, ?_, ?_⟩ <;> rw [invMixWord_eq]
  · simp only [byteOf_xor, byteOf_zero_w4, b]
  · simp only [byteOf_xor, byteOf_one_w4, b]
  · simp only [byteOf_xor, byteOf_two_w4, b]
  · simp only [byteOf_xor, byteOf_three_w4, b]

/-! ## The inverse schedule (R109, R110) -/

/-- Words 0, 3, 2, 1 of a forward round key: word `w` is word `(4 - w) mod 4`. -/
theorem getD_aesInverseRoundKey (nr : Nat) (ks : Nat → Word) (q : Nat) {w : Nat} (hw : w < 4) :
    (aesInverseRoundKey nr ks q).getD w 0 = invKeyTransform nr q (ks (4 * (nr - q) + (4 - w) % 4)) := by
  interval_cases w <;> rfl

/-- Setting `INV` on the tag of an AES schedule (R110). -/
theorem kstagWithInv_of_aes {k : Word} (hk : k ∈ kstagValues) (hf : k.getLsbD 8 = true)
    (hc : k.extractLsb' 0 2 = Cipher.aes.code) :
    kstagWithInv k = 0x328 ∨ kstagWithInv k = 0x330 ∨ kstagWithInv k = 0x338 := by
  simp only [kstagValues, List.mem_cons, List.not_mem_nil, or_false] at hk
  rcases hk with rfl | rfl | rfl | rfl | rfl | rfl | rfl | rfl | rfl | rfl <;> revert hf hc <;> decide

/-- Settles O27: `KSI` holds the inverse schedule, whose words are those of the round keys in reverse order. -/
theorem invkeyAesWritesInverseSchedule : Obligations.InvkeyAesWritesInverseSchedule := by
  refine ⟨fun s hl hr => ?_, fun s hr => (exec_invkeyAes s).trans (if_neg hr)⟩
  have ⟨hf, hc⟩ := hr
  refine ⟨_, (exec_invkeyAes s).trans (if_pos hr), fun q hq w hw => ?_, fun j hj => ?_, rfl,
    kstagWithInv_of_aes hl hf hc⟩
  · refine (ksiWord_storeKsi_aesInverseSchedule hl hr s.ksfWord (by omega)).trans ?_
    rw [getD_aesInverseSchedule _ _ _ _ hq hw, getD_aesInverseRoundKey _ _ _ hw]
    rfl
  · refine (ksiWord_storeKsi _ _ _).trans (if_neg ?_)
    rw [length_aesInverseSchedule]
    omega

end Sys2Proof.Machine
end

section
/-! PROOFS. The AES block transforms (41_aes_round.md): the rounds of R121 as ShiftRows, a map on each word and the round
key, the forward transform as the published cipher (R123), and the inverse transform as its inverse (R126, R128). -/

namespace Sys2Proof.Machine

/-! ## Words as four bytes (R13) -/

theorem w4_byteOf (t : Word) : w4 (byteOf 0 t) (byteOf 1 t) (byteOf 2 t) (byteOf 3 t) = t := by
  have h₂ : byteOf 2 t ++ byteOf 3 t = t.extractLsb' 0 16 :=
    BitVec.extractLsb'_append_extractLsb'_eq_extractLsb' rfl
  have h₁ : byteOf 1 t ++ t.extractLsb' 0 16 = t.extractLsb' 0 24 :=
    BitVec.extractLsb'_append_extractLsb'_eq_extractLsb' rfl
  have h₀ : byteOf 0 t ++ t.extractLsb' 0 24 = t.extractLsb' 0 32 :=
    BitVec.extractLsb'_append_extractLsb'_eq_extractLsb' rfl
  rw [w4, h₂, h₁, h₀, BitVec.extractLsb'_eq_self]

theorem w4_xor (a b c d a' b' c' d' : Byte) :
    w4 a b c d ^^^ w4 a' b' c' d' = w4 (a ^^^ a') (b ^^^ b') (c ^^^ c') (d ^^^ d') := by
  rw [w4, w4, w4, BitVec.xor_append, BitVec.xor_append, BitVec.xor_append]

/-- A map on bytes applied to each byte of a word: `SubWord` is that of the S-box. -/
def mapBytes (f : Byte → Byte) (t : Word) : Word :=
  w4 (f (byteOf 0 t)) (f (byteOf 1 t)) (f (byteOf 2 t)) (f (byteOf 3 t))

theorem byteOf_mapBytes (f : Byte → Byte) (t : Word) (r : Fin 4) : byteOf r.val (mapBytes f t) = f (byteOf r.val t) :=
  match r with
  | 0 => byteOf_zero_w4 ..
  | 1 => byteOf_one_w4 ..
  | 2 => byteOf_two_w4 ..
  | 3 => byteOf_three_w4 ..

theorem mapBytes_mapBytes (f g : Byte → Byte) (t : Word) : mapBytes f (mapBytes g t) = mapBytes (f ∘ g) t := by
  simp [mapBytes]

theorem mapBytes_invSbox_sbox (t : Word) : mapBytes invSbox (mapBytes sbox t) = t := by
  rw [mapBytes_mapBytes, (funext invSbox_sbox : invSbox ∘ sbox = id)]
  exact w4_byteOf t

/-- One lookup for each byte of a word, in the table of its place, summed: a main round of R121 in one column. -/
def sumTables (T : Nat → Byte → Word) (t : Word) : Word :=
  T 0 (byteOf 0 t) ^^^ T 1 (byteOf 1 t) ^^^ T 2 (byteOf 2 t) ^^^ T 3 (byteOf 3 t)

/-! ## InvMixColumns over sums (R15, R108) -/

/-- `xtime` is a shift and, for a byte of degree 7, the sum with the reduction polynomial. -/
theorem xtime_eq (a : Byte) : xtime a = a <<< 1 ^^^ if a.getLsbD 7 then 0x1B else 0 := by
  rw [xtime]
  cases a.getLsbD 7 <;> simp

theorem xtime_xor (a b : Byte) : xtime (a ^^^ b) = xtime a ^^^ xtime b := by
  have hreduce : ∀ x y : Bool, (if x ^^ y then 0x1B else 0 : Byte) =
      (if x then 0x1B else 0) ^^^ (if y then 0x1B else 0) := by decide
  rw [xtime_eq, xtime_eq, xtime_eq, BitVec.getLsbD_xor, BitVec.shiftLeft_xor_distrib, hreduce]
  ac_rfl

theorem gmulBits_xor_left (n : Nat) (a b c : Byte) : gmulBits n (a ^^^ b) c = gmulBits n a c ^^^ gmulBits n b c := by
  induction n generalizing a b c with
  | zero => simp [gmulBits]
  | succ n ih =>
    simp only [gmulBits, xtime_xor, ih]
    cases c.getLsbD 0
    · simp
    · simp only [if_true]
      ac_rfl

/-- A product is linear in its first factor. -/
theorem gmul_xor_left (a b c : Byte) : gmul (a ^^^ b) c = gmul a c ^^^ gmul b c := gmulBits_xor_left 8 a b c

theorem invMixWord_xor (x y : Word) : invMixWord (x ^^^ y) = invMixWord x ^^^ invMixWord y := by
  simp only [invMixWord_eq, byteOf_xor, gmul_xor_left, ← w4_xor]
  ac_rfl

/-- MixColumns of a substituted byte, undone: InvMixColumns leaves the substituted byte in its place. -/
theorem invMixWord_subMix : ∀ x : Byte,
    invMixWord (subMix 0 x) = w4 (sbox x) 0 0 0 ∧ invMixWord (subMix 1 x) = w4 0 (sbox x) 0 0 ∧
    invMixWord (subMix 2 x) = w4 0 0 (sbox x) 0 ∧ invMixWord (subMix 3 x) = w4 0 0 0 (sbox x) := by decide +kernel

/-- InvMixColumns undoes the MixColumns of the forward tables and leaves SubBytes. -/
theorem invMixWord_sumTables_subMix (t : Word) : invMixWord (sumTables subMix t) = mapBytes sbox t := by
  obtain ⟨h₀, -, -, -⟩ := invMixWord_subMix (byteOf 0 t)
  obtain ⟨-, h₁, -, -⟩ := invMixWord_subMix (byteOf 1 t)
  obtain ⟨-, -, h₂, -⟩ := invMixWord_subMix (byteOf 2 t)
  obtain ⟨-, -, -, h₃⟩ := invMixWord_subMix (byteOf 3 t)
  simp only [sumTables, invMixWord_xor, h₀, h₁, h₂, h₃, w4_xor, mapBytes]
  simp

/-- The inverse tables are InvSubBytes and then InvMixColumns (R265). -/
theorem sumTables_invSubMix (t : Word) : sumTables invSubMix t = invMixWord (mapBytes invSbox t) := by
  simp [sumTables, invMixWord, mapBytes, sbox_invSbox]

/-! ## Blocks -/

section
variable {x y : Block 4}

theorem block_ext (h : ∀ c : Fin 4, x[c] = y[c]) : x = y := Vector.ext fun i hi => h ⟨i, hi⟩

theorem block_getElem_congr {c d : Fin 4} (h : c = d) : x[c] = x[d] := by
  cases h
  rfl

theorem getElem_ofFn_block (f : Fin 4 → Word) (c : Fin 4) : (Vector.ofFn f : Block 4)[c] = f c := Vector.getElem_ofFn _

theorem getElem_map_block (f : Word → Word) (c : Fin 4) : (x.map f)[c] = f x[c] := Vector.getElem_map _ _

theorem getElem_xorBlock (c : Fin 4) : (xorBlock x y)[c] = x[c] ^^^ y[c] := Vector.getElem_zipWith _

/-- The exchange of R126 takes column `c` to column `-c`. -/
theorem getElem_aesSwap (c : Fin 4) : (aesSwap x)[c] = x[-c] := by fin_cases c <;> rfl

theorem aesSwap_aesSwap : aesSwap (aesSwap x) = x :=
  block_ext fun c => by rw [getElem_aesSwap, getElem_aesSwap, block_getElem_congr (neg_neg c)]

theorem aesSwap_xorBlock : aesSwap (xorBlock x y) = xorBlock (aesSwap x) (aesSwap y) :=
  block_ext fun c => by
    rw [getElem_aesSwap, getElem_xorBlock, getElem_xorBlock, getElem_aesSwap, getElem_aesSwap]

theorem aesSwap_map (f : Word → Word) : aesSwap (x.map f) = (aesSwap x).map f :=
  block_ext fun c => by rw [getElem_aesSwap, getElem_map_block, getElem_map_block, getElem_aesSwap]

theorem xorBlock_xorBlock_cancel : xorBlock (xorBlock x y) y = x :=
  block_ext fun c => by rw [getElem_xorBlock, getElem_xorBlock, BitVec.xor_assoc, BitVec.xor_self, BitVec.xor_zero]

theorem map_invMixWord_xorBlock :
    (xorBlock x y).map invMixWord = xorBlock (x.map invMixWord) (y.map invMixWord) :=
  block_ext fun c => by simp only [getElem_xorBlock, getElem_map_block, invMixWord_xor]

end

/-- ShiftRows: byte `r` of column `c` comes from column `c + r`. -/
def shiftRows (x : Block 4) : Block 4 :=
  Vector.ofFn fun c => w4 (byteOf 0 x[c]) (byteOf 1 x[c + 1]) (byteOf 2 x[c + 2]) (byteOf 3 x[c + 3])

theorem getElem_shiftRows (x : Block 4) (c : Fin 4) :
    (shiftRows x)[c] = w4 (byteOf 0 x[c]) (byteOf 1 x[c + 1]) (byteOf 2 x[c + 2]) (byteOf 3 x[c + 3]) :=
  getElem_ofFn_block _ c

theorem byteOf_shiftRows (x : Block 4) (c r : Fin 4) : byteOf r.val (shiftRows x)[c] = byteOf r.val x[c + r] := by
  rw [getElem_shiftRows]
  match r with
  | 0 => exact (byteOf_zero_w4 ..).trans (congrArg (byteOf 0) (block_getElem_congr (add_zero c).symm))
  | 1 => exact byteOf_one_w4 ..
  | 2 => exact byteOf_two_w4 ..
  | 3 => exact byteOf_three_w4 ..

theorem shiftRows_map_mapBytes (f : Byte → Byte) (x : Block 4) :
    shiftRows (x.map (mapBytes f)) = (shiftRows x).map (mapBytes f) :=
  block_ext fun c => by simp only [getElem_shiftRows, getElem_map_block, mapBytes, byteOf_zero_w4, byteOf_one_w4,
    byteOf_two_w4, byteOf_three_w4]

/-- Between two ShiftRows the exchange turns the second into InvShiftRows (R126). -/
theorem shiftRows_aesSwap_shiftRows (x : Block 4) : shiftRows (aesSwap (shiftRows x)) = aesSwap x :=
  block_ext fun c => by
    have hrow : ∀ r : Fin 4, byteOf r.val (aesSwap (shiftRows x))[c + r] = byteOf r.val (aesSwap x)[c] := fun r => by
      rw [getElem_aesSwap, byteOf_shiftRows, getElem_aesSwap,
        block_getElem_congr (by rw [neg_add, neg_add_cancel_right] : -(c + r) + r = -c)]
    have h₀ := hrow 0
    rw [block_getElem_congr (add_zero c)] at h₀
    calc (shiftRows (aesSwap (shiftRows x)))[c]
        = w4 (byteOf 0 (aesSwap x)[c]) (byteOf 1 (aesSwap x)[c]) (byteOf 2 (aesSwap x)[c]) (byteOf 3 (aesSwap x)[c]) := by
          rw [getElem_shiftRows]; exact congr (congr (congr (congrArg w4 h₀) (hrow 1)) (hrow 2)) (hrow 3)
      _ = (aesSwap x)[c] := w4_byteOf _

/-! ## The rounds of R121 -/

/-- The round key at `rk[k .. k+3]`. -/
def roundKey (rk : Nat → Word) (k : Nat) : Block 4 := Vector.ofFn fun c => rk (k + c.val)

section
variable (rk : Nat → Word) (k : Nat) (x : Block 4)

theorem aesAddKey_eq : aesAddKey rk k x = xorBlock x (roundKey rk k) :=
  block_ext fun c => by rw [getElem_xorBlock, roundKey, aesAddKey, getElem_ofFn_block, getElem_ofFn_block]

/-- A main round shifts the rows, looks the columns up and adds the round key. -/
theorem aesRound_eq (T : Nat → Byte → Word) :
    aesRound T rk k x = xorBlock ((shiftRows x).map (sumTables T)) (roundKey rk k) :=
  block_ext fun c => by
    rw [getElem_xorBlock, roundKey, aesRound, getElem_ofFn_block, getElem_ofFn_block, getElem_map_block,
      getElem_shiftRows, sumTables, byteOf_zero_w4, byteOf_one_w4, byteOf_two_w4, byteOf_three_w4]

/-- The final round shifts the rows, substitutes the bytes and adds the round key. -/
theorem aesFinalRound_eq (sb : Byte → Byte) :
    aesFinalRound sb rk k x = xorBlock ((shiftRows x).map (mapBytes sb)) (roundKey rk k) :=
  block_ext fun c => by
    rw [getElem_xorBlock, roundKey, aesFinalRound, getElem_ofFn_block, getElem_ofFn_block, getElem_map_block,
      getElem_shiftRows, mapBytes, byteOf_zero_w4, byteOf_one_w4, byteOf_two_w4, byteOf_three_w4]

end

/-! ## The forward transform (R123) -/

/-- A main round is SubBytes, ShiftRows, the rows of MixColumns and AddRoundKey: the tables are the columns of
MixColumns (R263). -/
theorem byteOf_aesRound_subMix (rk : Nat → Word) (k : Nat) (x : Block 4) (c : Fin 4) :
    let a := fun r : Fin 4 => sbox (byteOf r.val x[c + r])
    let key := fun r => byteOf r (rk (k + c.val))
    byteOf 0 (aesRound subMix rk k x)[c] = gmul (a 0) 2 ^^^ gmul (a 1) 3 ^^^ a 2 ^^^ a 3 ^^^ key 0 ∧
    byteOf 1 (aesRound subMix rk k x)[c] = a 0 ^^^ gmul (a 1) 2 ^^^ gmul (a 2) 3 ^^^ a 3 ^^^ key 1 ∧
    byteOf 2 (aesRound subMix rk k x)[c] = a 0 ^^^ a 1 ^^^ gmul (a 2) 2 ^^^ gmul (a 3) 3 ^^^ key 2 ∧
    byteOf 3 (aesRound subMix rk k x)[c] = gmul (a 0) 3 ^^^ a 1 ^^^ a 2 ^^^ gmul (a 3) 2 ^^^ key 3 := by
  obtain ⟨h₀, -, -, -⟩ := subMix_eq (byteOf 0 x[c + 0])
  obtain ⟨-, h₁, -, -⟩ := subMix_eq (byteOf 1 x[c + 1])
  obtain ⟨-, -, h₂, -⟩ := subMix_eq (byteOf 2 x[c + 2])
  obtain ⟨-, -, -, h₃⟩ := subMix_eq (byteOf 3 x[c + 3])
  rw [aesRound, getElem_ofFn_block, block_getElem_congr (add_zero c).symm, h₀, h₁, h₂, h₃, w4_xor, w4_xor, w4_xor]
  simp only [byteOf_xor, byteOf_zero_w4, byteOf_one_w4, byteOf_two_w4, byteOf_three_w4]
  exact ⟨rfl, rfl, rfl, rfl⟩

/-- The final round is SubBytes, ShiftRows and AddRoundKey. -/
theorem byteOf_aesFinalRound (sb : Byte → Byte) (rk : Nat → Word) (k : Nat) (x : Block 4) (c r : Fin 4) :
    byteOf r.val (aesFinalRound sb rk k x)[c] = sb (byteOf r.val x[c + r]) ^^^ byteOf r.val (rk (k + c.val)) := by
  rw [aesFinalRound_eq, getElem_xorBlock, getElem_map_block, byteOf_xor, byteOf_mapBytes, byteOf_shiftRows, roundKey,
    getElem_ofFn_block]

/-- Settles O36: the round states are those the main rounds leave. -/
theorem aesForwardIsPublishedCipher : Obligations.AesForwardIsPublishedCipher := by
  intro s b _ _
  refine ⟨fun j => aesMainRounds subMix s.ksfWord j (aesAddKey s.ksfWord 0 b), fun c => ?_, fun j hj _ c => ?_,
    byteOf_aesFinalRound sbox _ _ _⟩
  · exact (getElem_ofFn_block _ c).trans (by rw [Nat.zero_add])
  · obtain ⟨m, rfl⟩ : ∃ m, j = m + 1 := ⟨j - 1, by omega⟩
    exact byteOf_aesRound_subMix _ _ _ c

/-! ## The inverse transform (R126, R128) -/

/-- The state of the inverse transform that stands for the state `x` of the forward one: SubBytes, ShiftRows and the
exchange applied to `x`. -/
def mirrored (x : Block 4) : Block 4 := aesSwap ((shiftRows x).map (mapBytes sbox))

/-- ShiftRows and InvSubBytes leave the exchanged state. -/
theorem shiftRows_mirrored_map_invSbox (x : Block 4) :
    (shiftRows (mirrored x)).map (mapBytes invSbox) = aesSwap x := by
  rw [mirrored, aesSwap_map, shiftRows_map_mapBytes, shiftRows_aesSwap_shiftRows]
  exact block_ext fun c => by rw [getElem_map_block, getElem_map_block, mapBytes_invSbox_sbox]

/-- The inverse tables add InvMixColumns, which commutes with the exchange. -/
theorem shiftRows_mirrored_map_invSubMix (x : Block 4) :
    (shiftRows (mirrored x)).map (sumTables invSubMix) = aesSwap (x.map invMixWord) := by
  rw [aesSwap_map, ← shiftRows_mirrored_map_invSbox]
  exact block_ext fun c => by simp only [getElem_map_block, sumTables_invSubMix]

/-- A main round of the inverse transform undoes a main round of the forward one when its round key is the exchanged
forward one after InvMixColumns. -/
theorem aesRound_invSubMix_mirrored {ks iks : Nat → Word} {k k' : Nat} (x : Block 4)
    (hkey : roundKey iks k' = aesSwap ((roundKey ks k).map invMixWord)) :
    aesRound invSubMix iks k' (mirrored (aesRound subMix ks k x)) = mirrored x := by
  have hmix : ((shiftRows x).map (sumTables subMix)).map invMixWord = (shiftRows x).map (mapBytes sbox) :=
    block_ext fun c => by simp only [getElem_map_block, invMixWord_sumTables_subMix]
  rw [aesRound_eq, shiftRows_mirrored_map_invSubMix, hkey, ← aesSwap_xorBlock, aesRound_eq, map_invMixWord_xorBlock,
    xorBlock_xorBlock_cancel, hmix, mirrored]

/-- The round keys of `iks` are those of R109 from the schedule `ks`. -/
def InverseKeys (nr : Nat) (ks iks : Nat → Word) : Prop :=
  ∀ q ≤ nr, roundKey iks (4 * q) = aesSwap ((roundKey ks (4 * (nr - q))).map (invKeyTransform nr q))

section
variable {nr : Nat} {ks iks : Nat → Word} (h : InverseKeys nr ks iks)
include h

/-- The first and the last round key are only exchanged (R109). -/
theorem InverseKeys.end_eq {q : Nat} (hq : q = 0 ∨ q = nr) :
    roundKey iks (4 * q) = aesSwap (roundKey ks (4 * (nr - q))) := by
  rw [h q (by omega)]
  exact congrArg aesSwap (block_ext fun c => by rw [getElem_map_block, invKeyTransform, if_pos hq])

/-- The others go through InvMixColumns too (R109). -/
theorem InverseKeys.mid_eq {q : Nat} (h0 : 0 < q) (hq : q < nr) :
    roundKey iks (4 * q) = aesSwap ((roundKey ks (4 * (nr - q))).map invMixWord) := by
  rw [h q hq.le]
  exact congrArg aesSwap (block_ext fun c => by
    rw [getElem_map_block, getElem_map_block, invKeyTransform, if_neg (by omega)])

/-- After `m` main rounds the inverse transform stands where the forward one stood `m` main rounds before its last. -/
theorem InverseKeys.mainRounds_eq (b : Block 4) {m : Nat} (hm : m < nr) :
    aesMainRounds invSubMix iks m (aesAddKey iks 0 (aesSwap (aesEncrypt ks nr b))) =
      mirrored (aesMainRounds subMix ks (nr - 1 - m) (aesAddKey ks 0 b)) := by
  induction m with
  | zero =>
    have hkey : roundKey iks 0 = aesSwap (roundKey ks (4 * nr)) := h.end_eq (.inl rfl)
    rw [aesMainRounds, aesAddKey_eq, hkey, ← aesSwap_xorBlock, aesEncrypt, aesCore, aesFinalRound_eq,
      xorBlock_xorBlock_cancel, Nat.sub_zero, mirrored]
  | succ m ih =>
    have hround : nr - 1 - m = nr - 1 - (m + 1) + 1 := by omega
    have hkey := h.mid_eq (Nat.succ_pos m) hm
    rw [(by omega : nr - (m + 1) = nr - 1 - (m + 1) + 1)] at hkey
    rw [aesMainRounds, ih (by omega), hround, aesMainRounds]
    exact aesRound_invSubMix_mirrored _ hkey

/-- The inverse transform undoes the forward one. -/
theorem InverseKeys.aesDecrypt_aesEncrypt (hnr : 0 < nr) (b : Block 4) : aesDecrypt iks nr (aesEncrypt ks nr b) = b := by
  have hkey : roundKey iks (4 * nr) = aesSwap (roundKey ks 0) := by
    rw [h.end_eq (.inr rfl), Nat.sub_self, Nat.mul_zero]
  have hlast : nr - 1 - (nr - 1) = 0 := Nat.sub_self _
  rw [aesDecrypt, aesCore, h.mainRounds_eq b (by omega), hlast, aesMainRounds, aesFinalRound_eq,
    shiftRows_mirrored_map_invSbox, hkey, ← aesSwap_xorBlock, aesSwap_aesSwap, aesAddKey_eq, xorBlock_xorBlock_cancel]

end

theorem finite_block : Finite (Block 4) :=
  Finite.of_injective (fun (b : Block 4) (c : Fin 4) => b[c]) fun _ _ h => block_ext (congrFun h)

/-- There are finitely many blocks, so the forward transform undoes the inverse one too. -/
theorem InverseKeys.aesEncrypt_aesDecrypt {nr : Nat} {ks iks : Nat → Word} (h : InverseKeys nr ks iks) (hnr : 0 < nr)
    (b : Block 4) : aesEncrypt ks nr (aesDecrypt iks nr b) = b := by
  have hleft : Function.LeftInverse (aesDecrypt iks nr) (aesEncrypt ks nr) := h.aesDecrypt_aesEncrypt hnr
  have : Finite (Block 4) := finite_block
  exact hleft.rightInverse_of_surjective (Finite.surjective_of_injective hleft.injective) b

theorem inverseKeys_of_ksiInverseOfKsf {s : State} (h : s.KsiInverseOfKsf) :
    InverseKeys s.kstagNr s.ksfWord s.ksiWord := fun q hq => block_ext fun c => by
  have hword : ∀ w < 4, s.ksiWord (4 * q + w) =
      invKeyTransform s.kstagNr q (s.ksfWord (4 * (s.kstagNr - q) + (4 - w) % 4)) := fun w hw => by
    rw [h _ (by omega), getD_aesInverseSchedule _ _ _ _ hq hw, getD_aesInverseRoundKey _ _ _ hw]
  rw [getElem_aesSwap, getElem_map_block, roundKey, roundKey, getElem_ofFn_block, getElem_ofFn_block, hword c c.isLt,
    Fin.val_neg']

/-- With `KSI` the inverse schedule of `KSF`, each transform undoes the other. -/
theorem eiAes_efAes_of_ksiInverseOfKsf {s : State} (hnr : 0 < s.kstagNr) (h : s.KsiInverseOfKsf) (b : Block 4) :
    eiAes s (efAes s b) = b ∧ efAes s (eiAes s b) = b :=
  have hkeys := inverseKeys_of_ksiInverseOfKsf h
  ⟨hkeys.aesDecrypt_aesEncrypt hnr b, hkeys.aesEncrypt_aesDecrypt hnr b⟩

/-- `INVKEY.AES` leaves `KSI` the inverse schedule of `KSF` and the round count as it was (R110). -/
theorem exec_invkeyAes_ksiInverseOfKsf {s t : State} (hl : s.KstagLegal) (hr : s.Ready .aes)
    (h : exec .invkeyAes s = .next t) : t.kstagNr = s.kstagNr ∧ t.KsiInverseOfKsf := by
  rw [exec_invkeyAes, if_pos hr] at h
  cases h
  have hnr := kstagNr_of_kstagWithInv (s := s)
    (t := { s.storeKsi (aesInverseSchedule s.kstagNr s.ksfWord) with kstag := kstagWithInv s.kstag }.succeed) rfl
  refine ⟨hnr, fun j hj => ?_⟩
  rw [hnr] at hj ⊢
  exact ksiWord_storeKsi_aesInverseSchedule hl hr s.ksfWord hj

theorem kstagNr_pos_of_legal_aes {s : State} (hl : s.KstagLegal) (hr : s.Ready .aes) : 0 < s.kstagNr := by
  rcases kstagNr_of_legal_aes hl hr with h | h | h <;> omega

/-- Settles O37, by induction on the main rounds: each round of the inverse transform undoes a forward one, the last
first; the other way round because there are finitely many blocks. -/
theorem aesRoundTrip : Obligations.AesRoundTrip := by
  refine ⟨fun s b hl hr h => eiAes_efAes_of_ksiInverseOfKsf (kstagNr_pos_of_legal_aes hl hr) h b,
    fun s t b hl hr he => ?_⟩
  obtain ⟨hnr, h⟩ := exec_invkeyAes_ksiInverseOfKsf hl hr he
  have hpos : 0 < t.kstagNr := hnr ▸ kstagNr_pos_of_legal_aes hl hr
  exact eiAes_efAes_of_ksiInverseOfKsf hpos h b

end Sys2Proof.Machine
end

section
/-! PROOFS. The DES key schedule (42_des_key_schedule.md): the halves of R141 without the parity bits, the rotations of
R142 as one, the selectors bit by bit in the closed form of R143, and what `KEYEXP.DES` leaves in `KSF` (R144). -/

namespace Sys2Proof.Machine

/-! ## PC1 and the parity bits (R141) -/

theorem desKeyBit_eq_desBit (k0 k1 : Word) (j : Nat) : desKeyBit k0 k1 j = desBit k0 k1 j := by
  have hword : (j - 1) / 32 = 0 ↔ j ≤ 32 := by omega
  simp only [desKeyBit, hword]

/-- Words that agree outside the least significant bit of each byte agree at every other bit. -/
theorem getLsbD_eq_of_and_parity_mask {x y : Word} (h : x &&& 0xFEFEFEFE = y &&& 0xFEFEFEFE) {b : Nat} (hb : b < 32)
    (h8 : b % 8 ≠ 0) : x.getLsbD b = y.getLsbD b := by
  have hmask : ∀ b < 32, b % 8 ≠ 0 → (0xFEFEFEFE : Word).getLsbD b = true := by decide
  simpa only [BitVec.getLsbD_and, hmask b hb h8, Bool.and_true] using congrArg (BitVec.getLsbD · b) h

/-- `PC1` selects no parity bit, so the halves do not depend on them. -/
theorem desHalves_congr {k0 k1 k0' k1' : Word} (h0 : k0' &&& 0xFEFEFEFE = k0 &&& 0xFEFEFEFE)
    (h1 : k1' &&& 0xFEFEFEFE = k1 &&& 0xFEFEFEFE) : desHalves k0' k1' = desHalves k0 k1 := by
  obtain ⟨-, -, hpc1⟩ := pc1_range
  have hbits : pc1.map (desKeyBit k0' k1') = pc1.map (desKeyBit k0 k1) := List.map_congr_left fun j hj => by
    obtain ⟨hpos, -, hparity⟩ := hpc1 j hj
    simp only [desKeyBit]
    split
    · exact getLsbD_eq_of_and_parity_mask h0 (by omega) (by omega)
    · exact getLsbD_eq_of_and_parity_mask h1 (by omega) (by omega)
  simp only [desHalves, hbits]

section
variable (k0 k1 : Word) {i : Nat}

theorem getD_map_desKeyBit_pc1 (hi : i < 56) :
    (pc1.map (desKeyBit k0 k1)).getD i false = desBit k0 k1 (pc1.getD i 0) := by
  obtain ⟨hlen, -, -⟩ := pc1_range
  rw [← hlen] at hi
  simp [List.getD_eq_getElem?_getD, hi, desKeyBit_eq_desBit]

theorem getD_desHalves_fst (hi : i < 28) : (desHalves k0 k1).1.getD i false = desBit k0 k1 (pc1.getD i 0) := by
  rw [← getD_map_desKeyBit_pc1 k0 k1 (by omega)]
  simp [desHalves, List.getD_eq_getElem?_getD, hi]

theorem getD_desHalves_snd (hi : i < 28) : (desHalves k0 k1).2.getD i false = desBit k0 k1 (pc1.getD (28 + i) 0) := by
  rw [← getD_map_desKeyBit_pc1 k0 k1 (by omega)]
  simp [desHalves, List.getD_eq_getElem?_getD]

end

/-! ## The rotations (R142) -/

@[simp] theorem length_desRotate (s : Nat) (half : List Bool) : (desRotate s half).length = 28 := by simp [desRotate]

theorem getD_desRotate (s : Nat) (half : List Bool) {i : Nat} (hi : i < 28) :
    (desRotate s half).getD i false = half.getD ((i + s) % 28) false := by
  simp [desRotate, List.getD_eq_getElem?_getD, hi]

/-- Two rotations are one by the sum of their places. -/
theorem desRotate_desRotate (s s' : Nat) (half : List Bool) :
    desRotate s' (desRotate s half) = desRotate (s + s') half := by
  refine List.map_congr_left fun i _ => ?_
  rw [getD_desRotate s half (Nat.mod_lt _ (by decide)), Nat.mod_add_mod, Nat.add_assoc, Nat.add_comm s']

theorem foldl_desRotate (shifts : List Nat) (s : Nat) (C D : List Bool) :
    shifts.foldl (fun cd s => (desRotate s cd.1, desRotate s cd.2)) (desRotate s C, desRotate s D) =
      (desRotate (s + shifts.sum) C, desRotate (s + shifts.sum) D) := by
  induction shifts generalizing s with
  | nil => rfl
  | cons s' shifts ih =>
    rw [List.foldl_cons, desRotate_desRotate, desRotate_desRotate, ih, List.sum_cons, Nat.add_assoc]

/-- The rotations up to round `r` are one by `TOT[r]`. -/
theorem desRotatedHalves_eq (k0 k1 : Word) (r : Nat) :
    desRotatedHalves k0 k1 r =
      (desRotate (desTotalShift r) (desHalves k0 k1).1, desRotate (desTotalShift r) (desHalves k0 k1).2) :=
  foldl_desRotate (desShifts.tail.take r) 1 _ _

/-! ## PC2 and the selectors (R143) -/

/-- `PC2` takes the first 24 bits from `C`, the others from `D`. -/
theorem getD_pc2_range : (∀ p < 24, 1 ≤ pc2.getD p 0 ∧ pc2.getD p 0 ≤ 28) ∧
    ∀ p < 48, 24 ≤ p → 29 ≤ pc2.getD p 0 ∧ pc2.getD p 0 ≤ 56 := by decide

/-- The bits `kb` of a round are those of the closed form. -/
theorem desKeyBitPc2_eq_desSubkeyBit (k0 k1 : Word) (r : Nat) {p : Nat} (hp : p < 48) :
    desKeyBitPc2 ((desRotatedHalves k0 k1 r).1 ++ (desRotatedHalves k0 k1 r).2) p = desSubkeyBit k0 k1 r p := by
  obtain ⟨hC, hD⟩ := getD_pc2_range
  have hmod : ∀ n, n % 28 < 28 := fun n => Nat.mod_lt n (by decide)
  simp only [desKeyBitPc2, desSubkeyBit, desRotatedHalves_eq]
  split
  next h24 =>
    obtain ⟨-, hhi⟩ := hC p h24
    rw [List.getD_append _ _ _ _ (by rw [length_desRotate]; omega), getD_desRotate _ _ (by omega),
      getD_desHalves_fst _ _ (hmod _)]
  next h24 =>
    obtain ⟨hlo, hhi⟩ := hD p hp (by omega)
    have hindex : pc2.getD p 0 - 1 - 28 = pc2.getD p 0 - 29 := by omega
    rw [List.getD_append_right _ _ _ _ (by rw [length_desRotate]; omega), length_desRotate, hindex,
      getD_desRotate _ _ (by omega), getD_desHalves_snd _ _ (hmod _)]

/-- The six bits `kb` of a selector, the first of them its most significant bit. -/
theorem getLsbD_desSelectorOf (cdr : List Bool) (i : Nat) {j : Nat} (hj : j < 6) :
    (desSelectorOf cdr i).getLsbD (5 - j) = desKeyBitPc2 cdr (6 * i + j) := by
  interval_cases j <;> simp [desSelectorOf]

/-- The word of a selector holds a value 0 to 63 (R32). -/
theorem toNat_zext32_lt (v : BitVec 6) : (zext32 v).toNat < 64 := by
  rw [zext32, BitVec.toNat_setWidth_of_le (by decide)]
  exact v.isLt

theorem getLsbD_zext32 (v : BitVec 6) {b : Nat} (hb : b < 32) : (zext32 v).getLsbD b = v.getLsbD b := by
  simp [zext32, hb]

theorem getD_map_zext32_desRoundSelectors (k0 k1 : Word) (r : Nat) {i : Nat} (hi : i < 8) :
    ((desRoundSelectors k0 k1 r).map zext32).getD i 0 =
      zext32 (desSelectorOf ((desRotatedHalves k0 k1 r).1 ++ (desRotatedHalves k0 k1 r).2) i) := by
  simp [desRoundSelectors, List.getD_eq_getElem?_getD, hi]

/-- Entry `k * q + w` of lists of `k` words put one after the other is word `w` of list `q`. -/
theorem getD_flatMap_of_length {α : Type} {k : Nat} (f : α → List Word) (hf : ∀ a, (f a).length = k) {w : Nat}
    (hw : w < k) : ∀ (l : List α) (q : Nat) (hq : q < l.length), (l.flatMap f).getD (k * q + w) 0 = (f l[q]).getD w 0
  | a :: l, 0, _ => by
    rw [List.flatMap_cons, Nat.mul_zero, Nat.zero_add, List.getD_append _ _ _ _ (by rwa [hf])]
    rfl
  | a :: l, q + 1, hq => by
    have hindex : k * (q + 1) + w = k + (k * q + w) := by ring
    rw [List.flatMap_cons, hindex, List.getD_append_right _ _ _ _ (by rw [hf]; exact Nat.le_add_right k _), hf,
      Nat.add_sub_cancel_left, getD_flatMap_of_length f hf hw l q (Nat.lt_of_succ_lt_succ hq)]
    rfl

/-- Word `8r + i` of the schedule is selector `i` of round `r` (R32, R145). -/
theorem getD_desSchedule (k0 k1 : Word) {r i : Nat} (hr : r < 16) (hi : i < 8) :
    (desSchedule k0 k1).getD (8 * r + i) 0 =
      zext32 (desSelectorOf ((desRotatedHalves k0 k1 r).1 ++ (desRotatedHalves k0 k1 r).2) i) := by
  rw [desSchedule, getD_flatMap_of_length _ (fun r => by simp) hi _ r (by simpa using hr), List.getElem_range,
    getD_map_zext32_desRoundSelectors k0 k1 r hi]

/-! ## `KEYEXP.DES 2` (R140, R144) -/

theorem exec_keyexpDes_two (s : State) :
    exec (.keyexpDes 2) s = .next (installSchedule .des 2 (desSchedule (s.keyWord 0) (s.keyWord 1)) s) :=
  (exec_keyexpOf .des 2 s).trans (if_pos (by decide))

/-- Settles O29, by the closed form of each bit of the selectors. -/
theorem keyexpDesWritesSelectors : Obligations.KeyexpDesWritesSelectors := by
  intro s
  refine ⟨_, exec_keyexpDes_two s, fun r hr i hi => ?_, fun j hj => ?_, installSchedule_frame _ _ _ _⟩
  · rw [ksfWord_installSchedule, if_pos (by rw [length_desSchedule]; omega), getD_desSchedule _ _ hr hi]
    refine ⟨toNat_zext32_lt _, fun j hj => ?_⟩
    rw [getLsbD_zext32 _ (by omega), getLsbD_desSelectorOf _ _ hj, desKeyBitPc2_eq_desSubkeyBit _ _ _ (by omega)]
  · rw [ksfWord_installSchedule, if_neg (by rw [length_desSchedule]; omega)]

/-- The schedule depends on the key through the halves of PC1 only. -/
theorem desSchedule_congr {k0 k1 k0' k1' : Word} (h : desHalves k0' k1' = desHalves k0 k1) :
    desSchedule k0' k1' = desSchedule k0 k1 := by
  simp only [desSchedule, desRoundSelectors, desRotatedHalves, h]

/-- Settles O30: the halves of PC1 do not depend on the parity bits. -/
theorem desParityBitsAreIgnored : Obligations.DesParityBitsAreIgnored := by
  intro s key hkey
  have hsched := desSchedule_congr (desHalves_congr (hkey 0 (by decide)) (hkey 1 (by decide)))
  exact ⟨_, exec_keyexpDes_two s, (exec_keyexpDes_two _).trans
    (congrArg (fun ws => Host.Outcome.next (installSchedule .des 2 ws { s with key := key })) hsched)⟩

end Sys2Proof.Machine
end

section
/-! PROOFS. The DES block network (43_des_round.md): the exchange steps and the two permutations undo themselves (R156 to
R158), the sixteen rounds of R160 and their reversal (R163), and `F_DES` against the tables of the standard (R161). -/

namespace Sys2Proof.Machine

/-! ## The exchange steps (R156 to R158) -/

/-- A word inside the mask `m` is recovered from a left shift that loses no bit of `m`. -/
theorem shiftLeft_shiftRight_and_mask {m : Word} {n : Nat} (hm : m <<< n >>> n = m) (a : Word) :
    (a &&& m) <<< n >>> n = a &&& m := by
  rw [BitVec.shiftLeft_and_distrib, BitVec.ushiftRight_and_distrib, hm]
  refine BitVec.eq_of_getLsbD_eq fun i hi => ?_
  have hbit : (m <<< n >>> n).getLsbD i = m.getLsbD i := by rw [hm]
  by_cases h : n + i < 32
  · simp [h, BitVec.getLsbD_eq_getElem hi]
  · have hout : m.getLsbD i = false := by simpa [h] using hbit.symm
    simp [hout]

section
variable {n : Nat} {m : Word}

/-- An exchange step whose mask survives the shift undoes itself. -/
theorem exLR_exLR (hm : m <<< n >>> n = m) (lr : Word × Word) : exLR n m (exLR n m lr) = lr := by
  obtain ⟨l, r⟩ := lr
  have ht := shiftLeft_shiftRight_and_mask hm (l >>> n ^^^ r)
  have hsame : ((l ^^^ ((l >>> n ^^^ r) &&& m) <<< n) >>> n ^^^ (r ^^^ (l >>> n ^^^ r) &&& m)) &&& m =
      (l >>> n ^^^ r) &&& m := by
    have hcancel (a b c : Word) : a ^^^ b ^^^ (c ^^^ b) = a ^^^ c := by
      rw [BitVec.xor_comm c, ← BitVec.xor_assoc, xor_cancel_right]
    rw [BitVec.ushiftRight_xor_distrib, ht, hcancel]
  simp only [exLR, hsame, xor_cancel_right]

theorem exRL_eq_swap_exLR (lr : Word × Word) : exRL n m lr = (exLR n m lr.swap).swap := rfl

theorem exRL_exRL (hm : m <<< n >>> n = m) (lr : Word × Word) : exRL n m (exRL n m lr) = lr := by
  rw [exRL_eq_swap_exLR, exRL_eq_swap_exLR, Prod.swap_swap, exLR_exLR hm, Prod.swap_swap]

end

theorem desInitialPermutation_desFinalPermutation (lr : Word × Word) :
    desInitialPermutation (desFinalPermutation lr) = lr := by
  rw [desInitialPermutation, desFinalPermutation, exLR_exLR (by decide), exLR_exLR (by decide), exRL_exRL (by decide),
    exRL_exRL (by decide), exLR_exLR (by decide)]

theorem desFinalPermutation_desInitialPermutation (lr : Word × Word) :
    desFinalPermutation (desInitialPermutation lr) = lr := by
  rw [desInitialPermutation, desFinalPermutation, exLR_exLR (by decide), exRL_exRL (by decide), exRL_exRL (by decide),
    exLR_exLR (by decide), exLR_exLR (by decide)]

/-! ## The rounds undone (R163) -/

/-- A round on the swapped halves of its own result gives back its halves, swapped. -/
theorem desRound_swap_desRound (sel : Nat → BitVec 6) (lr : Word × Word) :
    desRound sel (desRound sel lr).swap = lr.swap := by
  obtain ⟨l, r⟩ := lr
  simp only [desRound, Prod.swap, xor_cancel_right]

/-- The halves after the rounds of `order`. -/
def desRounds (sel : Nat → Nat → BitVec 6) (order : List Nat) (lr : Word × Word) : Word × Word :=
  order.foldl (fun lr r => desRound (sel r) lr) lr

theorem desCore_eq_desRounds (sel : Nat → Nat → BitVec 6) (order : List Nat) (b : Block 2) :
    desCore sel order b = desOutput (desRounds sel order (desInitialPermutation (b[0], b[1]))) := rfl

theorem desRounds_append (sel : Nat → Nat → BitVec 6) (order order' : List Nat) (lr : Word × Word) :
    desRounds sel (order ++ order') lr = desRounds sel order' (desRounds sel order lr) := List.foldl_append

theorem desRounds_singleton (sel : Nat → Nat → BitVec 6) (r : Nat) (lr : Word × Word) :
    desRounds sel [r] lr = desRound (sel r) lr := rfl

theorem desRounds_cons (sel : Nat → Nat → BitVec 6) (r : Nat) (order : List Nat) (lr : Word × Word) :
    desRounds sel (r :: order) lr = desRounds sel order (desRound (sel r) lr) := rfl

/-- The rounds in the opposite order, on the swapped halves, undo the rounds. -/
theorem desRounds_reverse_swap (sel : Nat → Nat → BitVec 6) (order : List Nat) (lr : Word × Word) :
    desRounds sel order.reverse (desRounds sel order lr).swap = lr.swap := by
  induction order generalizing lr with
  | nil => rfl
  | cons r order ih =>
    rw [List.reverse_cons, desRounds_append, desRounds_cons sel r order, ih, desRounds_singleton, desRound_swap_desRound]

theorem desInitialPermutation_desOutput (lr : Word × Word) :
    desInitialPermutation ((desOutput lr)[0], (desOutput lr)[1]) = lr.swap :=
  desInitialPermutation_desFinalPermutation lr.swap

theorem desOutput_swap_desInitialPermutation (b : Block 2) :
    desOutput (desInitialPermutation (b[0], b[1])).swap = b := by
  have hfp := desFinalPermutation_desInitialPermutation (b[0], b[1])
  simp only [desOutput, Prod.fst_swap, Prod.snd_swap, hfp]
  ext i hi
  interval_cases i <;> rfl

/-- `DesCore` in the opposite order of rounds undoes `DesCore`. -/
theorem desCore_reverse_desCore (sel : Nat → Nat → BitVec 6) (order : List Nat) (b : Block 2) :
    desCore sel order.reverse (desCore sel order b) = b := by
  rw [desCore_eq_desRounds, desCore_eq_desRounds sel order b, desInitialPermutation_desOutput, desRounds_reverse_swap,
    desOutput_swap_desInitialPermutation]

/-- Settles O39, by induction over the order of rounds: each round undoes itself on the swapped halves. -/
theorem desRoundTrip : Obligations.DesRoundTrip := fun S b =>
  ⟨desCore_reverse_desCore S (List.range 16) b, desCore_reverse_desCore S (List.range 16).reverse b⟩

/-! ## The rounds in either order (R160) -/

/-- Halves that follow the rounds `order 0, order 1, ...` are those of `desRounds`. -/
theorem desRounds_map_range {S : Nat → Nat → BitVec 6} {order : Nat → Nat} {l r : Nat → Word} (n : Nat)
    (h : ∀ i < n, l (i + 1) = r i ∧ r (i + 1) = l i ^^^ fDes (r i) (S (order i))) :
    desRounds S ((List.range n).map order) (l 0, r 0) = (l n, r n) := by
  induction n with
  | zero => rfl
  | succ n ih =>
    obtain ⟨hl, hr⟩ := h n n.lt_succ_self
    rw [List.range_succ, List.map_append, desRounds_append, ih fun i hi => h i (Nat.lt_succ_of_lt hi), List.map_singleton,
      desRounds_singleton, desRound, hl, hr]

theorem desCore_of_halves {S : Nat → Nat → BitVec 6} {order : Nat → Nat} {l r : Nat → Word} {b : Block 2} {n : Nat}
    (h0 : (l 0, r 0) = desInitialPermutation (b[0], b[1]))
    (h : ∀ i < n, l (i + 1) = r i ∧ r (i + 1) = l i ^^^ fDes (r i) (S (order i))) :
    ((desCore S ((List.range n).map order) b)[0], (desCore S ((List.range n).map order) b)[1]) =
      desFinalPermutation (r n, l n) := by
  rw [desCore_eq_desRounds, ← h0, desRounds_map_range n h]
  rfl

theorem desEnc_eq_desCore_map (S : Nat → Nat → BitVec 6) : desEnc S = desCore S ((List.range 16).map id) := by
  rw [List.map_id]
  rfl

theorem desDec_eq_desCore_map (S : Nat → Nat → BitVec 6) : desDec S = desCore S ((List.range 16).map (15 - ·)) :=
  congrArg (desCore S) (by decide : (List.range 16).reverse = (List.range 16).map (15 - ·))

theorem desSelector_zero (s : State) : s.desSelector 0 = fun r i => (s.ksfWord (8 * r + i)).setWidth 6 := by
  funext r i
  rw [State.desSelector, Nat.zero_add]

/-- Settles O38: both orders are `0 .. 15` under a renumbering of the rounds. -/
theorem desNetworkRounds : Obligations.DesNetworkRounds := by
  refine ⟨fun S b l r h0 => ⟨fun h => ?_, fun h => ?_⟩, fun s b => ?_⟩
  · rw [desEnc_eq_desCore_map]
    exact desCore_of_halves h0 h
  · rw [desDec_eq_desCore_map]
    exact desCore_of_halves h0 h
  · rw [efDes, eiDes, desSelector_zero]
    exact ⟨rfl, rfl⟩

/-! ## `F_DES` and the tables of the standard (R159, R161) -/

theorem getLsbD_rotl32 (a : Word) {n k : Nat} (hn : n < 32) (hk : k < 32) :
    (rotl32 a n).getLsbD k = a.getLsbD ((k + 32 - n) % 32) := by
  rw [rotl32, BitVec.getLsbD_rotateLeft, Nat.mod_eq_of_lt hn, decide_eq_true hk, Bool.true_and, Bool.cond_decide]
  split
  all_goals
    congr 1
    omega

/-- Bit `j` of `ESel(R, i)`, the first its most significant, is bit `4i + j` of `R` in DES numbering. -/
theorem getLsbD_eSel (r : Word) {i j : Nat} (hi : i < 8) (hj : j < 6) :
    (eSel r i).getLsbD (5 - j) = r.getLsbD ((64 - (4 * i + j)) % 32) := by
  have hout : 5 - j < 6 := by omega
  rw [eSel, BitVec.getLsbD_setWidth, decide_eq_true hout, Bool.true_and, BitVec.getLsbD_ushiftRight,
    getLsbD_rotl32 _ (by omega) (by omega), rotr32, getLsbD_rotl32 _ (by decide) (Nat.mod_lt _ (by decide))]
  congr 1
  omega

theorem getLsbD_desExpandedGroup (r : Word) (i : Nat) {j : Nat} (hj : j < 6) :
    (desExpandedGroup r i).getLsbD (5 - j) = r.getLsbD (32 - desExpansion.getD (6 * i + j) 0) := by
  interval_cases j <;> simp [desExpandedGroup, List.range_succ]

/-- The engine's expansion is the table `E` (R161, R278). -/
theorem eSel_eq_desExpandedGroup (r : Word) {i : Nat} (hi : i < 8) : eSel r i = desExpandedGroup r i := by
  refine BitVec.eq_of_getLsbD_eq fun k hk => ?_
  obtain ⟨j, hj, rfl⟩ : ∃ j < 6, k = 5 - j := ⟨5 - k, by omega, by omega⟩
  rw [getLsbD_eSel r hi hj, getLsbD_desExpandedGroup r i hj, desExpansion_eq i hi j hj]
  congr 1
  omega

/-- DES bit `q` (1..32) of the word that holds `x` in its nibble `i`, nibble 0 the most significant. -/
theorem getLsbD_nibble (x : BitVec 4) {i q : Nat} (hi : i < 8) (hq : 1 ≤ q ∧ q ≤ 32) :
    (x.setWidth 32 <<< (28 - 4 * i)).getLsbD (32 - q) = (decide ((q - 1) / 4 = i) && x.getLsbD (3 - (q - 1) % 4)) := by
  rw [BitVec.getLsbD_shiftLeft, BitVec.getLsbD_setWidth]
  by_cases h : (q - 1) / 4 = i
  · have hpos : 32 - q - (28 - 4 * i) = 3 - (q - 1) % 4 := by omega
    have hlow : ¬ 32 - q < 28 - 4 * i := by omega
    have hword : 32 - q < 32 ∧ 3 - (q - 1) % 4 < 32 := by omega
    rw [hpos]
    simp [h, hlow, hword]
  · have hout : 32 - q < 28 - 4 * i ∨ 4 ≤ 32 - q - (28 - 4 * i) := by omega
    rw [decide_eq_false h, Bool.false_and]
    obtain hlow | hhigh := hout
    · simp [hlow]
    · rw [BitVec.getLsbD_of_ge _ _ hhigh, Bool.and_false, Bool.and_false]

theorem getD_pperm_range : ∀ p < 32, 1 ≤ pperm.getD p 0 ∧ pperm.getD p 0 ≤ 32 := by decide

/-- Box `i` feeds the bits of `F_DES` that `PPERM` takes from its own output. -/
theorem getLsbD_desBoxOutput (r : Word) (sel : Nat → BitVec 6) {i p : Nat} (hi : i < 8) (hp : p < 32) :
    (desBoxOutput r sel i).getLsbD (31 - p) =
      (decide ((pperm.getD p 0 - 1) / 4 = i) && desSboxBit r sel (pperm.getD p 0)) := by
  rw [desBoxOutput, sp_eq_permuted_sbox i hi _ p hp, getLsbD_nibble _ hi (getD_pperm_range p hp),
    eSel_eq_desExpandedGroup r hi]
  by_cases h : (pperm.getD p 0 - 1) / 4 = i
  · rw [desSboxBit, h]
  · rw [decide_eq_false h, Bool.false_and, Bool.false_and]

/-- Settles O40: of the eight lookups, the one of the box that `PPERM` names sets the bit. -/
theorem desFunctionIsPublished : Obligations.DesFunctionIsPublished := by
  intro r sel p hp
  have hbox : (pperm.getD p 0 - 1) / 4 < 8 := by
    have := getD_pperm_range p hp
    omega
  have hbit := fun i hi => getLsbD_desBoxOutput r sel (i := i) hi hp
  simp only [fDes, BitVec.getLsbD_xor, hbit 0 (by decide), hbit 1 (by decide), hbit 2 (by decide), hbit 3 (by decide),
    hbit 4 (by decide), hbit 5 (by decide), hbit 6 (by decide), hbit 7 (by decide)]
  generalize (pperm.getD p 0 - 1) / 4 = g at hbox
  interval_cases g <;> simp

end Sys2Proof.Machine
end

section
/-! PROOFS. Triple-DES (44_tdes.md): the three schedules `KEYEXP.TDES` leaves in `KSF` (R176, R177), the composition and
its inverse (R178, R179), and its degeneracy to single DES when keys are equal (R181). -/

namespace Sys2Proof.Machine

/-! ## `KEYEXP.TDES 6` (R176, R177) -/

/-- The schedule is that of key `k` for k = 0..2, one after the other (R33). -/
theorem tdesSchedule_eq_flatMap (key : Nat → Word) :
    tdesSchedule key = (List.range 3).flatMap fun k => desSchedule (key (2 * k)) (key (2 * k + 1)) := by
  simp [tdesSchedule, List.range_succ]

/-- Word `128k + w` of the schedule is word `w` of the schedule of key `k` (R33). -/
theorem getD_tdesSchedule (key : Nat → Word) {k w : Nat} (hk : k < 3) (hw : w < 128) :
    (tdesSchedule key).getD (128 * k + w) 0 = (desSchedule (key (2 * k)) (key (2 * k + 1))).getD w 0 := by
  rw [tdesSchedule_eq_flatMap, getD_flatMap_of_length _ (fun _ => length_desSchedule _ _) hw _ k (by simpa using hk),
    List.getElem_range]

theorem exec_keyexpTdes_six (s : State) :
    exec (.keyexpTdes 6) s = .next (installSchedule .tdes 6 (tdesSchedule s.keyWord) s) :=
  (exec_keyexpOf .tdes 6 s).trans (if_pos (by decide))

/-- Settles O31: each of the 384 words comes from the schedule of its own key. -/
theorem keyexpTdesWritesThreeSchedules : Obligations.KeyexpTdesWritesThreeSchedules := by
  intro s
  refine ⟨_, exec_keyexpTdes_six s, fun k hk r hr i hi => ?_, fun j hj => ?_, installSchedule_frame _ _ _ _⟩
  · rw [ksfWord_installSchedule, if_pos (by rw [length_tdesSchedule]; omega), Nat.add_assoc,
      getD_tdesSchedule _ hk (by omega)]
  · rw [ksfWord_installSchedule, if_neg (by rw [length_tdesSchedule]; omega)]

/-! ## The composition and its inverse (R178, R179) -/

theorem desDec_desEnc (sel : Nat → Nat → BitVec 6) (b : Block 2) : desDec sel (desEnc sel b) = b :=
  (desRoundTrip sel b).left

theorem desEnc_desDec (sel : Nat → Nat → BitVec 6) (b : Block 2) : desEnc sel (desDec sel b) = b :=
  (desRoundTrip sel b).right

theorem tdesDec_tdesEnc (sel0 sel1 sel2 : Nat → Nat → BitVec 6) (b : Block 2) :
    tdesDec sel0 sel1 sel2 (tdesEnc sel0 sel1 sel2 b) = b := by
  rw [tdesDec, tdesEnc, desDec_desEnc, desEnc_desDec, desDec_desEnc]

theorem tdesEnc_tdesDec (sel0 sel1 sel2 : Nat → Nat → BitVec 6) (b : Block 2) :
    tdesEnc sel0 sel1 sel2 (tdesDec sel0 sel1 sel2 b) = b := by
  rw [tdesDec, tdesEnc, desEnc_desDec, desDec_desEnc, desEnc_desDec]

/-- Settles O42: each step of the composition is undone by the round trip of DES under its own schedule. -/
theorem tdesComposition : Obligations.TdesComposition := by
  intro s b S
  have hS : ∀ k, S k = s.desSelector (128 * k) := fun _ => rfl
  rw [hS, hS, hS]
  exact ⟨rfl, rfl, tdesDec_tdesEnc _ _ _ b, tdesEnc_tdesDec _ _ _ b⟩

/-! ## Equal keys (R181) -/

theorem tdesEnc_of_first_two_eq (sel sel2 : Nat → Nat → BitVec 6) (b : Block 2) :
    tdesEnc sel sel sel2 b = desEnc sel2 b := by
  rw [tdesEnc, desDec_desEnc]

theorem tdesDec_of_last_two_eq (sel0 sel : Nat → Nat → BitVec 6) (b : Block 2) :
    tdesDec sel0 sel sel b = desDec sel0 b := by
  rw [tdesDec, desEnc_desDec]

/-- The selectors of the schedule of a key, `S[r][i]` (R145). -/
def desKeySelectors (k0 k1 : Word) (r i : Nat) : BitVec 6 := ((desSchedule k0 k1).getD (8 * r + i) 0).setWidth 6

section
variable {s t : State}

/-- After `KEYEXP.DES 2` the selectors in `KSF` are those of the key. -/
theorem desSelector_of_keyexpDes (h : exec (.keyexpDes 2) s = .next t) :
    ∀ r < 16, ∀ i < 8, t.desSelector 0 r i = desKeySelectors (s.keyWord 0) (s.keyWord 1) r i := fun r hr i hi => by
  obtain rfl := Host.Outcome.next.inj ((exec_keyexpDes_two s).symm.trans h)
  rw [State.desSelector, desKeySelectors, Nat.zero_add, ksfWord_installSchedule,
    if_pos (by rw [length_desSchedule]; omega)]

/-- After `KEYEXP.TDES 6` the selectors at `128k` in `KSF` are those of key `k`. -/
theorem desSelector_of_keyexpTdes (h : exec (.keyexpTdes 6) s = .next t) {k : Nat} (hk : k < 3) :
    ∀ r < 16, ∀ i < 8,
      t.desSelector (128 * k) r i = desKeySelectors (s.keyWord (2 * k)) (s.keyWord (2 * k + 1)) r i :=
    fun r hr i hi => by
  obtain ⟨t', ht', hword, -⟩ := keyexpTdesWritesThreeSchedules s
  obtain rfl := Host.Outcome.next.inj (ht'.symm.trans h)
  rw [State.desSelector, desKeySelectors, hword k hk r hr i hi]

theorem efDes_of_keyexpDes (h : exec (.keyexpDes 2) s = .next t) (b : Block 2) :
    efDes t b = desEnc (desKeySelectors (s.keyWord 0) (s.keyWord 1)) b := by
  rw [efDes, desEnc_congr (desSelector_of_keyexpDes h)]

theorem eiDes_of_keyexpDes (h : exec (.keyexpDes 2) s = .next t) (b : Block 2) :
    eiDes t b = desDec (desKeySelectors (s.keyWord 0) (s.keyWord 1)) b := by
  rw [eiDes, desDec_congr (desSelector_of_keyexpDes h)]

theorem efTdes_of_keyexpTdes (h : exec (.keyexpTdes 6) s = .next t) (b : Block 2) :
    efTdes t b =
      tdesEnc (desKeySelectors (s.keyWord 0) (s.keyWord 1)) (desKeySelectors (s.keyWord 2) (s.keyWord 3))
        (desKeySelectors (s.keyWord 4) (s.keyWord 5)) b := by
  rw [efTdes, tdesEnc, tdesEnc, desEnc_congr (desSelector_of_keyexpTdes h (by decide : 0 < 3)),
    desDec_congr (desSelector_of_keyexpTdes h (by decide : 1 < 3)),
    desEnc_congr (desSelector_of_keyexpTdes h (by decide : 2 < 3))]

theorem eiTdes_of_keyexpTdes (h : exec (.keyexpTdes 6) s = .next t) (b : Block 2) :
    eiTdes t b =
      tdesDec (desKeySelectors (s.keyWord 0) (s.keyWord 1)) (desKeySelectors (s.keyWord 2) (s.keyWord 3))
        (desKeySelectors (s.keyWord 4) (s.keyWord 5)) b := by
  rw [eiTdes, tdesDec, tdesDec, desDec_congr (desSelector_of_keyexpTdes h (by decide : 0 < 3)),
    desEnc_congr (desSelector_of_keyexpTdes h (by decide : 1 < 3)),
    desDec_congr (desSelector_of_keyexpTdes h (by decide : 2 < 3))]

end

/-- Settles O43: equal keys have equal schedules, and then two neighbouring steps of the composition cancel. -/
theorem tdesDegeneratesToDes : Obligations.TdesDegeneratesToDes := by
  intro s t u b ht hu h02 h13
  have henc : efTdes t b = desEnc (desKeySelectors (s.keyWord 4) (s.keyWord 5)) b := by
    rw [efTdes_of_keyexpTdes ht, h02, h13, tdesEnc_of_first_two_eq]
  refine ⟨?_, fun h04 h15 => ⟨?_, ?_⟩⟩
  · rw [henc, ← desEnc_congr (desSelector_of_keyexpTdes ht (by decide : 2 < 3))]
    rfl
  · rw [henc, efDes_of_keyexpDes hu, h04, h15]
  · rw [eiTdes_of_keyexpTdes ht, eiDes_of_keyexpDes hu, ← h02, ← h13, ← h04, ← h15, tdesDec_of_last_two_eq]

end Sys2Proof.Machine
end

section
/-! PROOFS. The Blowfish key schedule (45_blowfish_key_schedule.md): the tables before the bootstrap (R191), the
bootstrap step by step (R192), what `KEYEXP.BF` leaves in `KSF` (R193), and the keys with equal schedules (R194). -/

namespace Sys2Proof.Machine

/-! ## The tables before the bootstrap (R191) -/

section
variable (kw : Nat) (key : Nat → Word)

theorem tableP_bfInitialTables {i : Nat} (hi : i < 18) :
    tableP (bfInitialTables kw key) i = bfP0 i ^^^ key (i % kw) := by
  rw [tableP, bfInitialTables, List.getD_append _ _ _ _ (by simpa using hi)]
  simp [List.getD_eq_getElem?_getD, hi]

theorem tableS_bfInitialTables {b j : Nat} (hb : b < 4) (hj : j < 256) :
    tableS (bfInitialTables kw key) b j = bfS0 b j := by
  have hindex : 18 + 256 * b + j - 18 = 256 * b + j := by omega
  rw [tableS, bfInitialTables, List.getD_append_right _ _ _ _ (by simp [Nat.add_assoc]), List.length_map,
    List.length_range, hindex, getD_flatMap_of_length _ (fun _ => by simp) hj _ b (by simpa using hb)]
  simp [List.getD_eq_getElem?_getD, hj]

end

/-! ## The bootstrap (R192) -/

/-- The new block is the old one encrypted under the tables as they stand. -/
theorem block_bfBootstrapStep (td : BfTables × Block 2) (j : Nat) :
    (bfBootstrapStep td j).2 = bfEnc (tableP td.1) (tableS td.1) td.2 := rfl

/-- A bootstrap step puts the new block into the words `j` and `j + 1` and leaves the others. -/
theorem tableP_bfBootstrapStep (td : BfTables × Block 2) (j : Nat) {i : Nat} (hi : i < td.1.length) :
    tableP (bfBootstrapStep td j).1 i =
      if i = j then (bfBootstrapStep td j).2[0]
      else if i = j + 1 then (bfBootstrapStep td j).2[1] else tableP td.1 i := by
  simp only [bfBootstrapStep, tableP, List.getD_eq_getElem?_getD, List.getElem?_set]
  by_cases hfst : i = j
  · subst hfst
    simp [hi]
  · by_cases hsnd : i = j + 1
    · subst hsnd
      simp [hi]
    · simp [hfst, hsnd, Ne.symm hfst, Ne.symm hsnd]

section
variable (kw : Nat) (key : Nat → Word)

/-- The running tables and the running block after the first `k` steps of the bootstrap. -/
def bfBootstrapRun (k : Nat) : BfTables × Block 2 :=
  ((List.range k).map (2 * ·)).foldl bfBootstrapStep (bfInitialTables kw key, #v[0, 0])

theorem bfBootstrapRun_succ (k : Nat) :
    bfBootstrapRun kw key (k + 1) = bfBootstrapStep (bfBootstrapRun kw key k) (2 * k) := by
  simp [bfBootstrapRun, List.range_succ]

@[simp] theorem length_bfBootstrapRun (k : Nat) : (bfBootstrapRun kw key k).1.length = 1042 :=
  (length_bfBootstrap _ _).trans (length_bfInitialTables kw key)

theorem bfSchedule_eq_bfBootstrapRun : bfSchedule kw key = (bfBootstrapRun kw key 521).1 := by
  rw [bfSchedule, bfBootstrapOrder_eq, bfBootstrapRun]

end

/-! ## `KEYEXP.BF` (R190, R193) -/

theorem mem_keySizes_bf {kw : Nat} (h1 : 1 ≤ kw) (h14 : kw ≤ 14) : kw ∈ keySizes .bf := by
  simp only [keySizes, List.mem_cons, List.not_mem_nil, or_false]
  omega

theorem exec_keyexpBf_of_supported {kw : Nat} (h1 : 1 ≤ kw) (h14 : kw ≤ 14) (s : State) :
    exec (.keyexpBf kw) s = .next (installSchedule .bf kw (bfSchedule kw s.keyWord) s) :=
  (exec_keyexpOf .bf kw s).trans (if_pos (mem_keySizes_bf h1 h14))

/-- The tag of a Blowfish schedule does not hold the key size. -/
theorem kstagWord_bf (kw : Nat) : kstagWord .bf (roundCount .bf kw) = 0x143 := by
  rw [roundCount]
  decide

/-- Settles O32: the tables and blocks are those of the bootstrap run, each step of which is `bfBootstrapStep`. -/
theorem keyexpBfBootstrapsTables : Obligations.KeyexpBfBootstrapsTables := by
  intro s kw h1 h14
  refine ⟨_, fun k => tableP (bfBootstrapRun kw s.keyWord k).1, fun k => (bfBootstrapRun kw s.keyWord k).2,
    exec_keyexpBf_of_supported h1 h14 s, fun i hi => tableP_bfInitialTables kw _ hi,
    fun b hb j hj => tableS_bfInitialTables kw _ hb hj, rfl, fun k _ => ?_, fun i hi => ?_, ?_⟩
  · simp only [bfBootstrapRun_succ]
    exact ⟨block_bfBootstrapStep _ _, fun i hi => tableP_bfBootstrapStep _ _ (by rwa [length_bfBootstrapRun])⟩
  · rw [ksfWord_installSchedule, if_pos ⟨by rwa [length_bfSchedule], hi⟩, bfSchedule_eq_bfBootstrapRun]
    rfl
  · rw [← kstagWord_bf kw]
    exact installSchedule_frame _ _ _ _

/-! ## Keys with equal schedules (R194) -/

/-- The schedule depends on the cyclic key sequence at the 18 places of the P-array only, whatever the key size. -/
theorem bfSchedule_eq_of_cyclic_key_eq {kw kw' : Nat} {key key' : Nat → Word}
    (h : ∀ i < 18, key' (i % kw') = key (i % kw)) : bfSchedule kw' key' = bfSchedule kw key := by
  have hP : ((List.range 18).map fun i => bfP0 i ^^^ key' (i % kw')) =
      (List.range 18).map fun i => bfP0 i ^^^ key (i % kw) :=
    List.map_congr_left fun i hi => by rw [h i (List.mem_range.mp hi)]
  rw [bfSchedule, bfSchedule, bfInitialTables, bfInitialTables, hP]

/-- Settles O34: equal cyclic keys give one schedule, and the tag of Blowfish does not hold the key size. -/
theorem bfScheduleDependsOnCyclicKey : Obligations.BfScheduleDependsOnCyclicKey := by
  intro s key kw kw' h1 h14 h1' h14' hkey
  have hsched : bfSchedule kw' ({ s with key := key } : State).keyWord = bfSchedule kw s.keyWord :=
    bfSchedule_eq_of_cyclic_key_eq hkey
  refine ⟨_, exec_keyexpBf_of_supported h1 h14 s, ?_⟩
  rw [exec_keyexpBf_of_supported h1' h14', hsched]
  rfl

end Sys2Proof.Machine
end

section
/-! PROOFS. The Blowfish block network (46_blowfish_round.md): `F` by the numeric bytes of its word (R205), the rounds with
the P-array in either order (R207, R208) and their reversal (R209). -/

namespace Sys2Proof.Machine

/-! ## The rounds undone (R209) -/

/-- The halves after the rounds with the P-array entries of `order`. -/
def bfRounds (S : Nat → Nat → Word) (order : List Word) (lr : Word × Word) : Word × Word :=
  order.foldl (fun lr p => bfRound S p lr) lr

/-- The halves exchanged, with `p` XORed into the left and `q` into the right one of the given halves: the end of the
network, and what the rounds in the opposite order pass through. -/
def bfMirror (p q : Word) (lr : Word × Word) : Word × Word := (lr.2 ^^^ q, lr.1 ^^^ p)

section
variable (S : Nat → Nat → Word)

theorem bfRounds_cons (p : Word) (order : List Word) (lr : Word × Word) :
    bfRounds S (p :: order) lr = bfRounds S order (bfRound S p lr) := rfl

theorem bfRounds_map_range_succ (P : Nat → Word) (n : Nat) (lr : Word × Word) :
    bfRounds S ((List.range (n + 1)).map P) lr = bfRound S (P n) (bfRounds S ((List.range n).map P) lr) := by
  rw [bfRounds, List.range_succ, List.map_append, List.foldl_append]
  rfl

theorem halves_bfNetwork (order : List Word) (pR pL : Word) (b : Block 2) :
    ((bfNetwork S order pR pL b)[0], (bfNetwork S order pR pL b)[1]) =
      bfMirror pR pL (bfRounds S order (b[0], b[1])) := rfl

theorem bfMirror_bfMirror (p q : Word) (lr : Word × Word) : bfMirror q p (bfMirror p q lr) = lr := by
  simp only [bfMirror, xor_cancel_right]

/-- A round on the mirrored halves of a round's result gives the mirrored halves from before that round. -/
theorem bfRound_bfMirror_bfRound (o p q : Word) (lr : Word × Word) :
    bfRound S q (bfMirror p q (bfRound S o lr)) = bfMirror o p lr := by
  obtain ⟨l, r⟩ := lr
  have hcancel (f : Word) : r ^^^ f ^^^ p ^^^ f = r ^^^ p := by
    rw [BitVec.xor_assoc, BitVec.xor_comm p, ← BitVec.xor_assoc, xor_cancel_right]
  simp only [bfRound, bfMirror, xor_cancel_right, hcancel]

/-- The rounds with the entries `n + 1` down to `2` undo those with the entries `0` to `n - 1`, on mirrored halves. -/
theorem bfRounds_descending_bfMirror (P : Nat → Word) (n : Nat) (lr : Word × Word) :
    bfRounds S ((List.range n).map fun i => P (n + 1 - i))
        (bfMirror (P n) (P (n + 1)) (bfRounds S ((List.range n).map P) lr)) =
      bfMirror (P 0) (P 1) lr := by
  induction n with
  | zero => rfl
  | succ n ih =>
    have horder : ((List.range (n + 1)).map fun i => P (n + 2 - i)) =
        P (n + 2) :: (List.range n).map fun i => P (n + 1 - i) := by
      simp [List.range_succ_eq_map, Function.comp_def]
    rw [horder, bfRounds_cons, bfRounds_map_range_succ, bfRound_bfMirror_bfRound, ih]

theorem block_two_ext {x y : Block 2} (h : (x[0], x[1]) = (y[0], y[1])) : x = y := by
  obtain ⟨h0, h1⟩ := Prod.mk.inj h
  refine Vector.ext fun i hi => ?_
  interval_cases i
  · exact h0
  · exact h1

theorem bfDec_bfEnc (P : Nat → Word) (b : Block 2) : bfDec P S (bfEnc P S b) = b := by
  refine block_two_ext ?_
  rw [bfDec, halves_bfNetwork, bfEnc, halves_bfNetwork, bfRounds_descending_bfMirror S P 16, bfMirror_bfMirror]

/-- Decryption is encryption with the P-array reversed (R208). -/
theorem bfDec_eq_bfEnc_reversed (P : Nat → Word) : bfDec P S = bfEnc (fun i => P (17 - i)) S := rfl

theorem bfEnc_eq_bfDec_reversed (P : Nat → Word) : bfEnc P S = bfDec (fun i => P (17 - i)) S :=
  bfEnc_congr (fun _ hi => (congrArg P (Nat.sub_sub_self (Nat.le_of_lt_succ hi))).symm) fun _ _ _ _ => rfl

theorem bfEnc_bfDec (P : Nat → Word) (b : Block 2) : bfEnc P S (bfDec P S b) = b := by
  rw [bfEnc_eq_bfDec_reversed, bfDec_eq_bfEnc_reversed S P, bfDec_bfEnc]

end

/-- Settles O45: the rounds in the opposite order retrace the mirrored halves, for any entries and boxes. -/
theorem bfRoundTrip : Obligations.BfRoundTrip := fun P S b => ⟨bfDec_bfEnc S P b, bfEnc_bfDec S P b⟩

/-! ## `F` (R205) and the rounds in either order (R207, R208) -/

theorem toNat_byteOf (k : Nat) (x : Word) : (byteOf k x).toNat = bitsOf x (24 - 8 * k) 8 := by
  rw [byteOf, BitVec.extractLsb'_toNat, Nat.shiftRight_eq_div_pow]

theorem fBf_eq_bitsOf (S : Nat → Nat → Word) (x : Word) :
    fBf S x = ((S 0 (bitsOf x 24 8) + S 1 (bitsOf x 16 8)) ^^^ S 2 (bitsOf x 8 8)) + S 3 (bitsOf x 0 8) := by
  rw [fBf, toNat_byteOf, toNat_byteOf, toNat_byteOf, toNat_byteOf]

section
variable {S : Nat → Nat → Word} {p l r : Nat → Word} {n : Nat}

/-- Halves that follow the rounds with the entries `p 0, p 1, ...` are those of `bfRounds`. -/
theorem bfRounds_map_range (h : ∀ i < n, r (i + 1) = l i ^^^ p i ∧ l (i + 1) = r i ^^^ fBf S (l i ^^^ p i)) :
    bfRounds S ((List.range n).map p) (l 0, r 0) = (l n, r n) := by
  induction n with
  | zero => rfl
  | succ n ih =>
    obtain ⟨hr, hl⟩ := h n n.lt_succ_self
    rw [bfRounds_map_range_succ, ih fun i hi => h i (Nat.lt_succ_of_lt hi), hl, hr, bfRound]

theorem bfNetwork_of_halves {b : Block 2} {pR pL : Word} (hl : l 0 = b[0]) (hr : r 0 = b[1])
    (h : ∀ i < n, r (i + 1) = l i ^^^ p i ∧ l (i + 1) = r i ^^^ fBf S (l i ^^^ p i)) :
    bfNetwork S ((List.range n).map p) pR pL b = #v[r n ^^^ pL, l n ^^^ pR] := by
  refine block_two_ext ?_
  rw [halves_bfNetwork, ← hl, ← hr, bfRounds_map_range h]
  rfl

end

/-- Settles O44: the halves of either order are those of the network, and `bfP`, `bfS` are the words of R34. -/
theorem bfNetworkRounds : Obligations.BfNetworkRounds :=
  ⟨fBf_eq_bitsOf, by decide, by decide,
    fun _ _ _ _ _ hl hr => ⟨bfNetwork_of_halves hl hr, bfNetwork_of_halves hl hr⟩,
    fun P S b => congrFun (bfDec_eq_bfEnc_reversed S P) b, fun _ _ => ⟨rfl, rfl⟩⟩

end Sys2Proof.Machine
end

section
/-! PROOFS. The mode commands (47_mode_driver.md): what an accepted command leaves (R221, R232), the chain block of each
mode in closed form (R222 to R231, R233), and from it the ten modes. -/

namespace Sys2Proof.Machine

/-! ## An accepted command (R220, R221, R232) -/

/-- What a command with this block step over `n` words makes of the state `s`: the frame of R232, each block of `DATA` by
the block step, and the chain block after the last one. -/
structure BlocksRun {c : Cipher} (step : BlockStep (blockWords c)) (n : Nat) (s t : State) : Prop where
  frame : ModeFrame c n s t
  block : ∀ k < n / blockWords c,
    t.dataBlock (blockWords c) k = (step (s.dataBlock (blockWords c) k) (s.chainBefore step k)).1
  chain : t.chainBlock (blockWords c) = s.chainBefore step (n / blockWords c)

theorem modeCommand_accepted {c : Cipher} {needInv : Bool} {n : Nat} {s : State} (step : BlockStep (blockWords c))
    (hwf : Memory.wf s = true) (h : s.Accepts c needInv n) :
    ∃ t, modeCommand c needInv step n s = .next t ∧ BlocksRun step n s t := by
  have ⟨_, _, _, hn⟩ := h
  rw [← (wf_iff s).mp hwf] at hn
  exact ⟨_, modeCommand_of_accepted step ((modeError_eq_none_iff c needInv n s).mpr h), {
    frame := {
      others := rfl
      length := length_processBlocks step n s hn
      rest := dataWord_processBlocks step n s
      chainRest := chainWord_processBlocks step n s }
    block := dataBlock_processBlocks step n s
    chain := chainBlock_processBlocks step n s (blockWords_le_four c) }⟩

section
variable {m : Mode} {c : Cipher} {n : Nat} {s t : State}

theorem exec_encOf_accepted (hwf : Memory.wf s = true) (h : s.Accepts c false n) :
    ∃ t, exec (encOf m c n) s = .next t ∧ BlocksRun (encStep m (s.ef c)) n s t := by
  rw [exec_encOf]
  exact modeCommand_accepted _ hwf h

theorem exec_decOf_accepted (hwf : Memory.wf s = true) (h : s.Accepts c (decNeedsInverse m c) n) :
    ∃ t, exec (decOf m c n) s = .next t ∧ BlocksRun (decStep m (s.ef c) (s.ei c)) n s t := by
  rw [exec_decOf]
  exact modeCommand_accepted _ hwf h

/-- A command that needs the inverse schedule is accepted without that need too. -/
theorem accepts_forward {needInv : Bool} : s.Accepts c needInv n → s.Accepts c false n :=
  fun ⟨hready, _, hcount⟩ => ⟨hready, nofun, hcount⟩

/-- A state with the same tag and `DATA_WORDS` accepts the same commands. -/
theorem accepts_congr {needInv : Bool} (hk : t.kstag = s.kstag) (hc : t.config = s.config)
    (h : s.Accepts c needInv n) : t.Accepts c needInv n :=
  (modeError_eq_none_iff c needInv n t).mp ((modeError_congr hk hc).trans ((modeError_eq_none_iff c needInv n s).mpr h))

theorem decNeedsInverse_ecb (c : Cipher) : decNeedsInverse .ecb c = (c == .aes) := Bool.and_true _

theorem decNeedsInverse_cbc (c : Cipher) : decNeedsInverse .cbc c = (c == .aes) := Bool.and_true _

theorem decNeedsInverse_cfb (c : Cipher) : decNeedsInverse .cfb c = false := Bool.and_false _

theorem ModeFrame.kstag_eq (h : ModeFrame c n s t) : t.kstag = s.kstag := (congrArg State.kstag h.others :)

theorem ModeFrame.config_eq (h : ModeFrame c n s t) : t.config = s.config := (congrArg State.config h.others :)

theorem ModeFrame.status_eq (h : ModeFrame c n s t) : t.status = 0 := (congrArg State.status h.others :)

theorem ModeFrame.wf_eq (h : ModeFrame c n s t) : Memory.wf t = Memory.wf s := wf_congr h.length h.config_eq

/-- A mode command leaves `Ef` of every cipher as it was. -/
theorem ModeFrame.ef_eq (h : ModeFrame c n s t) (c' : Cipher) : t.ef c' = s.ef c' :=
  ef_congr h.kstag_eq fun j _ => (congrArg (State.ksfWord · j) h.others :)

/-- A mode command leaves `Ei` of every cipher as it was. -/
theorem ModeFrame.ei_eq (h : ModeFrame c n s t) (c' : Cipher) : t.ei c' = s.ei c' :=
  ei_congr h.kstag_eq (fun j _ => (congrArg (State.ksfWord · j) h.others :))
    fun _ j _ => (congrArg (State.ksiWord · j) h.others :)

/-- `CHAIN` is its block and the words beyond it. -/
theorem chain_eq_of_chainBlock_eq {B : Nat} (hblock : t.chainBlock B = s.chainBlock B)
    (hrest : ∀ i, B ≤ i → t.chainWord i = s.chainWord i) : t.chain = s.chain := by
  refine vector_eq_of_getD _ _ fun i _ => ?_
  by_cases hi : i < B
  · have hword : (t.chainBlock B)[i] = (s.chainBlock B)[i] := by rw [hblock]
    simpa only [State.chainBlock, State.chainWord, Vector.getElem_ofFn] using hword
  · exact hrest i (not_lt.mp hi)

/-- Word `i` of the blocks from block `q` on. -/
theorem dataWord_add_eq_dataBlock {B : Nat} (hB : 0 < B) (s : State) (q i : Nat) :
    s.dataWord (q * B + i) = (s.dataBlock B (q + i / B))[i % B]'(Nat.mod_lt _ hB) := by
  simp only [State.dataBlock, Vector.getElem_ofFn]
  rw [Nat.add_mul, Nat.add_assoc, Nat.div_add_mod']

/-- Equal blocks have equal words. -/
theorem dataWord_add_congr {B : Nat} (hB : 0 < B) {q q' i : Nat}
    (h : s.dataBlock B (q + i / B) = t.dataBlock B (q' + i / B)) : s.dataWord (q * B + i) = t.dataWord (q' * B + i) := by
  rw [dataWord_add_eq_dataBlock hB, dataWord_add_eq_dataBlock hB, h]

end

/-! ## The chain block in closed form (R233) -/

section
variable {B : Nat}

@[simp] theorem counterPlus_zero (v : Block B) : counterPlus v 0 = v := by
  refine Vector.ext fun i hi => ?_
  simp [counterPlus]

theorem counterNext_counterPlus (v : Block B) (k : Nat) : counterNext (counterPlus v k) = counterPlus v (k + 1) := by
  refine Vector.ext fun i hi => ?_
  simp only [counterNext, counterPlus, Vector.getElem_ofFn, Fin.getElem_fin]
  split
  · exact (BitVec.add_assoc _ _ _).trans (congrArg _ (BitVec.ofNat_add k 1).symm)
  · rfl

/-- The chain block before block `k` (R233): unchanged in ECB, the ciphertext block before in CBC and CFB, and a sequence
of its own in OFB and CTR. -/
def modeChain (m : Mode) (ef : Block B → Block B) (ch : Block B) (ciphertext : Nat → Block B) (k : Nat) : Block B :=
  match m with
  | .ecb => ch
  | .cbc | .cfb => blockBefore ch ciphertext k
  | .ofb => applyTimes ef k ch
  | .ctr => counterPlus ch k

theorem modeChain_zero (m : Mode) (ef : Block B → Block B) (ch : Block B) (ciphertext : Nat → Block B) :
    modeChain m ef ch ciphertext 0 = ch := by
  cases m with
  | ctr => exact counterPlus_zero ch
  | ecb | cbc | cfb | ofb => rfl

/-- ECB, OFB and CTR feed back no ciphertext. -/
theorem modeChain_of_no_feedback {m : Mode} (hm : m = .ecb ∨ m = .ofb ∨ m = .ctr) (ef : Block B → Block B)
    (ch : Block B) (ciphertext ciphertext' : Nat → Block B) (k : Nat) :
    modeChain m ef ch ciphertext k = modeChain m ef ch ciphertext' k := by
  rcases hm with rfl | rfl | rfl <;> rfl

/-- CBC and CFB feed back one ciphertext block. -/
theorem modeChain_succ_of_feedback {m : Mode} (hm : m = .cbc ∨ m = .cfb) (ef : Block B → Block B) (ch : Block B)
    (ciphertext : Nat → Block B) (k : Nat) : modeChain m ef ch ciphertext (k + 1) = ciphertext k := by
  rcases hm with rfl | rfl <;> rfl

/-- No mode feeds back more than the ciphertext block before. -/
theorem modeChain_congr (m : Mode) (ef : Block B → Block B) (ch : Block B) {ciphertext ciphertext' : Nat → Block B}
    {k : Nat} (h : ∀ j, j + 1 = k → ciphertext j = ciphertext' j) :
    modeChain m ef ch ciphertext k = modeChain m ef ch ciphertext' k := by
  cases k with
  | zero => rw [modeChain_zero, modeChain_zero]
  | succ k =>
    cases m with
    | cbc | cfb => exact h k rfl
    | ecb | ofb | ctr => rfl

/-- The chain block after a `DEC` step, whose ciphertext is the input. -/
theorem decStep_modeChain (m : Mode) (ef ei : Block B → Block B) (ch : Block B) (ciphertext : Nat → Block B) (k : Nat) :
    (decStep m ef ei (ciphertext k) (modeChain m ef ch ciphertext k)).2 = modeChain m ef ch ciphertext (k + 1) := by
  cases m with
  | ctr => exact counterNext_counterPlus ch k
  | ecb | cbc | cfb | ofb => rfl

/-- The chain block after an `ENC` step, whose ciphertext is the output. -/
theorem encStep_modeChain (m : Mode) (ef : Block B → Block B) (ch x : Block B) {ciphertext : Nat → Block B} {k : Nat}
    (h : ciphertext k = (encStep m ef x (modeChain m ef ch ciphertext k)).1) :
    (encStep m ef x (modeChain m ef ch ciphertext k)).2 = modeChain m ef ch ciphertext (k + 1) := by
  cases m with
  | ctr => exact counterNext_counterPlus ch k
  | cbc | cfb => exact h.symm
  | ecb | ofb => rfl

theorem chainBefore_decStep (m : Mode) (ef ei : Block B → Block B) (s : State) (k : Nat) :
    s.chainBefore (decStep m ef ei) k = modeChain m ef (s.chainBlock B) (s.dataBlock B) k := by
  induction k with
  | zero => exact (modeChain_zero m ef _ _).symm
  | succ k ih => rw [State.chainBefore_succ, ih, decStep_modeChain]

end

section
variable {m : Mode} {c : Cipher} {n : Nat} {s t : State} {ef ei : Block (blockWords c) → Block (blockWords c)}

theorem BlocksRun.chainBefore_encStep (h : BlocksRun (encStep m ef) n s t) {k : Nat} (hk : k ≤ n / blockWords c) :
    s.chainBefore (encStep m ef) k = modeChain m ef (s.chainBlock _) (t.dataBlock _) k := by
  induction k with
  | zero => exact (modeChain_zero m ef _ _).symm
  | succ k ih =>
    have hout := h.block k hk
    rw [ih (Nat.le_of_succ_le hk)] at hout
    rw [State.chainBefore_succ, ih (Nat.le_of_succ_le hk), encStep_modeChain m ef _ _ hout]

/-- `ENC` in closed form: every output block from its input block and the chain block of R233. -/
theorem BlocksRun.encStep_closed (h : BlocksRun (encStep m ef) n s t) :
    (∀ k < n / blockWords c, t.dataBlock _ k =
      (encStep m ef (s.dataBlock _ k) (modeChain m ef (s.chainBlock _) (t.dataBlock _) k)).1) ∧
    t.chainBlock _ = modeChain m ef (s.chainBlock _) (t.dataBlock _) (n / blockWords c) :=
  ⟨fun k hk => by rw [← h.chainBefore_encStep hk.le]; exact h.block k hk, h.chain.trans (h.chainBefore_encStep le_rfl)⟩

/-- `DEC` in closed form. -/
theorem BlocksRun.decStep_closed (h : BlocksRun (decStep m ef ei) n s t) :
    (∀ k < n / blockWords c, t.dataBlock _ k =
      (decStep m ef ei (s.dataBlock _ k) (modeChain m ef (s.chainBlock _) (s.dataBlock _) k)).1) ∧
    t.chainBlock _ = modeChain m ef (s.chainBlock _) (s.dataBlock _) (n / blockWords c) :=
  ⟨fun k hk => by rw [← chainBefore_decStep m ef ei]; exact h.block k hk, h.chain.trans (chainBefore_decStep ..)⟩

end

/-! ## Both directions, and the rest of `DATA` (R229, R231, R232) -/

/-- ENC and DEC are the same in OFB and CTR (R229, R231). -/
theorem exec_decOf_eq_exec_encOf {m : Mode} (hm : m = .ofb ∨ m = .ctr) (c : Cipher) (n : Nat) (s : State) :
    exec (decOf m c n) s = exec (encOf m c n) s := by
  rw [exec_decOf, exec_encOf]
  have hinv : decNeedsInverse m c = false := by
    rcases hm with rfl | rfl <;> exact Bool.and_false _
  rw [hinv]
  rcases hm with rfl | rfl <;> rfl

/-- No mode command reaches the words of `DATA` from `NWORDS` on (R232). -/
theorem modeCommand_dataWord {B : Nat} {c : Cipher} {needInv : Bool} {step : BlockStep B} {n : Nat} {s t : State}
    (h : modeCommand c needInv step n s = .next t) : ∀ i, n ≤ i → t.dataWord i = s.dataWord i := by
  rcases modeCommand_cases c needInv step n s with ⟨e, -, he⟩ | ⟨-, he⟩ <;> rw [he] at h <;> cases h
  · exact fun _ _ => rfl
  · exact dataWord_processBlocks step n s

theorem exec_mode_dataWord {i : Instr} {m : Mode} {c : Cipher} {n : Nat} {s t : State}
    (hi : i = encOf m c n ∨ i = decOf m c n) (h : exec i s = .next t) : ∀ j, n ≤ j → t.dataWord j = s.dataWord j := by
  rcases hi with rfl | rfl
  · rw [exec_encOf] at h
    exact modeCommand_dataWord h
  · rw [exec_decOf] at h
    exact modeCommand_dataWord h

/-! ## The modes (R222 to R231) -/

/-- Settles O20: a refused command writes `STATUS` only, an accepted one has the frame of R232. -/
theorem modeCommandsKeepSchedulesAndKey : Obligations.ModeCommandsKeepSchedulesAndKey := by
  intro m c n s t h
  obtain ⟨i, hi, ht⟩ : ∃ i, (i = encOf m c n ∨ i = decOf m c n) ∧ exec i s = .next t :=
    h.elim (⟨_, .inl rfl, ·⟩) (⟨_, .inr rfl, ·⟩)
  have hrest := exec_mode_dataWord hi ht
  obtain ⟨status, chain, data, rfl, hecb⟩ := exec_mode_frame hi ht
  exact ⟨rfl, hrest, hecb⟩

/-- Settles O46: the closed form of ECB, whose chain block never changes. -/
theorem encryptEcb : Obligations.EncryptEcb := by
  intro c n s hwf h B
  obtain ⟨t, ht, hrun⟩ := exec_encOf_accepted (m := .ecb) hwf h
  obtain ⟨hblock, hchain⟩ := hrun.encStep_closed
  exact ⟨t, ht, hrun.frame, chain_eq_of_chainBlock_eq hchain hrun.frame.chainRest, hblock⟩

/-- Settles O47: the closed form of ECB with `Ei`; the check of R220 refuses AES without the inverse schedule. -/
theorem decryptEcb : Obligations.DecryptEcb := by
  refine ⟨fun c n s hwf h => ?_, fun n s hinv => modeCommand_of_kstagInv_eq_false hinv⟩
  rw [← decNeedsInverse_ecb] at h
  obtain ⟨t, ht, hrun⟩ := exec_decOf_accepted hwf h
  obtain ⟨hblock, hchain⟩ := hrun.decStep_closed
  exact ⟨t, ht, hrun.frame, chain_eq_of_chainBlock_eq hchain hrun.frame.chainRest, hblock⟩

/-- Settles O48, by the closed form of CBC encryption. -/
theorem encryptCbc : Obligations.EncryptCbc := by
  intro c n s hwf h B
  obtain ⟨t, ht, hrun⟩ := exec_encOf_accepted (m := .cbc) hwf h
  exact ⟨t, ht, hrun.frame, hrun.encStep_closed⟩

/-- Settles O49: the closed form of CBC decryption; the check of R220 refuses AES without the inverse schedule. -/
theorem decryptCbc : Obligations.DecryptCbc := by
  refine ⟨fun c n s hwf h => ?_, fun n s hinv => modeCommand_of_kstagInv_eq_false hinv⟩
  rw [← decNeedsInverse_cbc] at h
  obtain ⟨t, ht, hrun⟩ := exec_decOf_accepted hwf h
  exact ⟨t, ht, hrun.frame, hrun.decStep_closed⟩

/-- Settles O50, by the closed form of CFB encryption. -/
theorem encryptCfb : Obligations.EncryptCfb := by
  intro c n s hwf h B
  obtain ⟨t, ht, hrun⟩ := exec_encOf_accepted (m := .cfb) hwf h
  exact ⟨t, ht, hrun.frame, hrun.encStep_closed⟩

/-- Settles O51, by the closed form of CFB decryption, which needs no inverse schedule. -/
theorem decryptCfb : Obligations.DecryptCfb := by
  intro c n s hwf h B
  rw [← decNeedsInverse_cfb c] at h
  obtain ⟨t, ht, hrun⟩ := exec_decOf_accepted hwf h
  exact ⟨t, ht, hrun.frame, hrun.decStep_closed⟩

/-- Settles O52: both directions are one mode command, and its chain block is the keystream block before. -/
theorem ofbBothDirections : Obligations.OfbBothDirections := by
  refine ⟨fun c n s => exec_decOf_eq_exec_encOf (.inl rfl) c n s, fun c n s hwf h => ?_⟩
  obtain ⟨t, ht, hrun⟩ := exec_encOf_accepted (m := .ofb) hwf h
  exact ⟨t, ht, hrun.frame, hrun.encStep_closed⟩

/-- Settles O53: both directions are one mode command, and its chain block is the counter. -/
theorem ctrBothDirections : Obligations.CtrBothDirections := by
  refine ⟨fun c n s => exec_decOf_eq_exec_encOf (.inr rfl) c n s, fun c n s hwf h => ?_⟩
  obtain ⟨t, ht, hrun⟩ := exec_encOf_accepted (m := .ctr) hwf h
  exact ⟨t, ht, hrun.frame, hrun.encStep_closed⟩

end Sys2Proof.Machine
end

section
/-! PROOFS. Sequences of mode commands (47_mode_driver.md): a command cut in two (R234), decryption after encryption
(R235), and the reach of a changed ciphertext block (R237). -/

namespace Sys2Proof.Machine

/-! ## A command cut in two (R234) -/

section
variable {c : Cipher} {step : BlockStep (blockWords c)} {n1 n2 : Nat} {s t u w : State} {d : List Word}

/-- The next input, moved to the start of `DATA`, has the blocks that follow the first `n1` words. -/
theorem dataBlock_of_moved {B k : Nat} (h1 : n1 % B = 0) (h2 : n2 % B = 0)
    (hd : ∀ i < n2, d.getD i 0 = s.dataWord (n1 + i)) (hk : k < n2 / B) :
    ({ u with data := d } : State).dataBlock B k = s.dataBlock B (n1 / B + k) := by
  refine Vector.ext fun i hi => ?_
  have hlt : k * B + i < n2 := by
    rw [← Nat.div_mul_cancel (Nat.dvd_of_mod_eq_zero h2)]
    nlinarith
  have hpos : n1 + (k * B + i) = (n1 / B + k) * B + i := by
    rw [Nat.add_mul, Nat.div_mul_cancel (Nat.dvd_of_mod_eq_zero h1), Nat.add_assoc]
  simp only [State.dataBlock, Vector.getElem_ofFn]
  rw [← hpos, ← hd _ hlt, State.dataWord]

/-- The chain block of the second command is that of the whole command, `n1` words on. -/
theorem BlocksRun.chainBefore_resumed (hu : BlocksRun step n1 s u) (h1 : n1 % blockWords c = 0)
    (h2 : n2 % blockWords c = 0) (hd : ∀ i < n2, d.getD i 0 = s.dataWord (n1 + i)) {k : Nat}
    (hk : k ≤ n2 / blockWords c) :
    ({ u with data := d } : State).chainBefore step k = s.chainBefore step (n1 / blockWords c + k) := by
  induction k with
  | zero => exact hu.chain
  | succ k ih =>
    rw [State.chainBefore_succ, ih (Nat.le_of_succ_le hk), dataBlock_of_moved h1 h2 hd hk, ← Nat.add_assoc,
      State.chainBefore_succ]

/-- The two commands together leave what the whole command leaves. -/
theorem BlocksRun.resumed (ht : BlocksRun step (n1 + n2) s t) (hu : BlocksRun step n1 s u)
    (hw : BlocksRun step n2 { u with data := d } w) (h1 : n1 % blockWords c = 0) (h2 : n2 % blockWords c = 0)
    (hd : ∀ i < n2, d.getD i 0 = s.dataWord (n1 + i)) :
    (∀ i < n1, t.dataWord i = u.dataWord i) ∧ (∀ i < n2, t.dataWord (n1 + i) = w.dataWord i) ∧ t.chain = w.chain := by
  have hB := blockWords_pos c
  have hsplit : (n1 + n2) / blockWords c = n1 / blockWords c + n2 / blockWords c :=
    Nat.add_div_of_dvd_right (Nat.dvd_of_mod_eq_zero h1)
  have hblocks : ∀ n i, n % blockWords c = 0 → i < n → i / blockWords c < n / blockWords c := fun n i hn hi =>
    Nat.div_lt_div_of_lt_of_dvd (Nat.dvd_of_mod_eq_zero hn) hi
  refine ⟨fun i hi => ?_, fun i hi => ?_, ?_⟩
  · have hk := hblocks n1 i h1 hi
    rw [dataWord_eq_dataBlock t _ i hB, dataWord_eq_dataBlock u _ i hB, hu.block _ hk,
      ht.block _ (hsplit ▸ Nat.lt_add_right _ hk)]
  · have hk := hblocks n2 i h2 hi
    have hblock : t.dataBlock (blockWords c) (n1 / blockWords c + i / blockWords c) =
        w.dataBlock (blockWords c) (0 + i / blockWords c) := by
      rw [Nat.zero_add, ht.block _ (hsplit ▸ Nat.add_lt_add_left hk _), hw.block _ hk, dataBlock_of_moved h1 h2 hd hk,
        hu.chainBefore_resumed h1 h2 hd hk.le]
    calc t.dataWord (n1 + i) = t.dataWord (n1 / blockWords c * blockWords c + i) := by
          rw [Nat.div_mul_cancel (Nat.dvd_of_mod_eq_zero h1)]
      _ = w.dataWord (0 * blockWords c + i) := dataWord_add_congr hB hblock
      _ = w.dataWord i := by rw [Nat.zero_mul, Nat.zero_add]
  · refine chain_eq_of_chainBlock_eq (B := blockWords c) ?_ fun i hi => ?_
    · rw [ht.chain, hw.chain, hu.chainBefore_resumed h1 h2 hd le_rfl, hsplit]
    · exact (ht.frame.chainRest i hi).trans ((hw.frame.chainRest i hi).trans (hu.frame.chainRest i hi)).symm

end

/-- `Ef` reads neither `DATA` nor `CHAIN`. -/
theorem ef_withBuffers (s : State) (data : List Word) (chain : Vector Word 4) (c : Cipher) :
    ({ s with data := data, chain := chain } : State).ef c = s.ef c :=
  ef_congr rfl fun _ _ => rfl

/-- `Ei` reads neither `DATA` nor `CHAIN`. -/
theorem ei_withBuffers (s : State) (data : List Word) (chain : Vector Word 4) (c : Cipher) :
    ({ s with data := data, chain := chain } : State).ei c = s.ei c :=
  ei_congr rfl (fun _ _ => rfl) fun _ _ _ => rfl

/-- The block step of a command in either direction. -/
def commandStep (s : State) (m : Mode) (c : Cipher) (decrypting : Bool) : BlockStep (blockWords c) :=
  if decrypting then decStep m (s.ef c) (s.ei c) else encStep m (s.ef c)

theorem exec_commandOf_accepted {m : Mode} {c : Cipher} {decrypting : Bool} {n : Nat} {s : State}
    (hwf : Memory.wf s = true) (h : s.Accepts c (decrypting && decNeedsInverse m c) n) :
    ∃ t, exec (if decrypting then decOf m c n else encOf m c n) s = .next t ∧
      BlocksRun (commandStep s m c decrypting) n s t := by
  cases decrypting with
  | false => exact exec_encOf_accepted hwf h
  | true => exact exec_decOf_accepted hwf h

/-- Settles O54: the second command starts from the chain block and the input block at which the whole one goes on. -/
theorem resumption : Obligations.Resumption := by
  intro m c decrypting n1 n2 s d command hwf h h1 hlen hd
  have ⟨hready, hinv, hsum, hbound⟩ := h
  have h2 : n2 % blockWords c = 0 := by
    have hdvd := (Nat.dvd_add_right (Nat.dvd_of_mod_eq_zero h1)).mp (Nat.dvd_of_mod_eq_zero hsum)
    exact Nat.mod_eq_zero_of_dvd hdvd
  have hacc1 : s.Accepts c (decrypting && decNeedsInverse m c) n1 := ⟨hready, hinv, h1, by omega⟩
  have hacc2 : s.Accepts c (decrypting && decNeedsInverse m c) n2 := ⟨hready, hinv, h2, by omega⟩
  obtain ⟨t, ht, htrun⟩ := exec_commandOf_accepted hwf h
  obtain ⟨u, hu, hurun⟩ := exec_commandOf_accepted hwf hacc1
  have hwf' : Memory.wf { u with data := d } = true :=
    (wf_congr (t := { u with data := d }) hlen hurun.frame.config_eq).trans hwf
  obtain ⟨w, hw, hwrun⟩ := exec_commandOf_accepted (s := { u with data := d }) hwf'
    (accepts_congr hurun.frame.kstag_eq hurun.frame.config_eq hacc2)
  have hstep : commandStep ({ u with data := d } : State) m c decrypting = commandStep s m c decrypting := by
    rw [commandStep, commandStep, ef_withBuffers u d u.chain, ei_withBuffers u d u.chain, hurun.frame.ef_eq,
      hurun.frame.ei_eq]
  rw [hstep] at hwrun
  exact ⟨t, u, w, ht, hu, hw, htrun.frame.status_eq, hurun.frame.status_eq, hwrun.frame.status_eq,
    htrun.resumed hurun hwrun h1 h2 hd⟩

/-! ## Decryption after encryption (R235) -/

section
variable {B : Nat}

theorem xorBlock_cancel_right (x y : Block B) : xorBlock (xorBlock x y) y = x := by
  refine Vector.ext fun i hi => ?_
  simp only [xorBlock, Vector.getElem_zipWith, xor_cancel_right]

/-- A `DEC` step undoes the `ENC` step from the same chain block; only ECB and CBC need that `Ei` undoes `Ef`. -/
theorem decStep_encStep {m : Mode} {ef ei : Block B → Block B} (h : m = .ecb ∨ m = .cbc → ∀ x, ei (ef x) = x)
    (x ch : Block B) : (decStep m ef ei (encStep m ef x ch).1 ch).1 = x := by
  cases m with
  | ecb => exact h (.inl rfl) x
  | cbc => exact (congrArg (xorBlock · ch) (h (.inr rfl) _)).trans (xorBlock_cancel_right x ch)
  | cfb | ofb | ctr => exact xorBlock_cancel_right x _

end

/-- `Ei` undoes `Ef` for every cipher; that of AES with the inverse schedule in place. -/
theorem ei_ef {c : Cipher} {s : State} (hl : s.KstagLegal) (hr : s.Ready c) (hsound : s.InvTagSound)
    (hinv : c = .aes → s.kstagInv = true) (x : Block (blockWords c)) : s.ei c (s.ef c x) = x := by
  cases c with
  | aes => exact (eiAes_efAes_of_ksiInverseOfKsf (kstagNr_pos_of_legal_aes hl hr) (hsound (hinv rfl)) x).1
  | des => exact desDec_desEnc _ x
  | tdes => exact tdesDec_tdesEnc _ _ _ x
  | bf => exact bfDec_bfEnc _ _ x

/-- `DATA` is its first blocks and the words from the last of them on. -/
theorem data_eq_of_dataBlock_eq {B n : Nat} {s t : State} (hB : 0 < B) (hn : n % B = 0)
    (hlen : t.data.length = s.data.length) (hblock : ∀ k < n / B, t.dataBlock B k = s.dataBlock B k)
    (hrest : ∀ i, n ≤ i → t.dataWord i = s.dataWord i) : t.data = s.data := by
  have hword : ∀ i, t.dataWord i = s.dataWord i := fun i => by
    by_cases hi : i < n
    · have hk := Nat.div_lt_div_of_lt_of_dvd (Nat.dvd_of_mod_eq_zero hn) hi
      rw [dataWord_eq_dataBlock t B i hB, dataWord_eq_dataBlock s B i hB, hblock _ hk]
    · exact hrest i (not_lt.mp hi)
  refine List.ext_getElem hlen fun i hi hi' => ?_
  simpa only [State.dataWord, List.getD_eq_getElem _ _ hi, List.getD_eq_getElem _ _ hi'] using hword i

/-- Settles O55: both commands meet the same chain blocks, and each `DEC` step undoes the `ENC` step. -/
theorem decryptInvertsEncrypt : Obligations.DecryptInvertsEncrypt := by
  intro m c n s hwf hl hsound h
  have ⟨hready, hinv, haligned, _⟩ := h
  have hundo : m = .ecb ∨ m = .cbc → ∀ x, s.ei c (s.ef c x) = x := fun hm =>
    ei_ef hl hready hsound fun hc => hinv (by rcases hm with rfl | rfl <;> rw [hc] <;> rfl)
  obtain ⟨t, ht, htrun⟩ := exec_encOf_accepted (m := m) hwf (accepts_forward h)
  have hframe := htrun.frame
  obtain ⟨u, hu, hurun⟩ := exec_decOf_accepted (m := m) (s := { t with chain := s.chain })
    (hframe.wf_eq.trans hwf) (accepts_congr hframe.kstag_eq hframe.config_eq h)
  rw [ef_withBuffers t t.data s.chain, ei_withBuffers t t.data s.chain, hframe.ef_eq, hframe.ei_eq] at hurun
  obtain ⟨hty, -⟩ := htrun.encStep_closed
  obtain ⟨hux, -⟩ := hurun.decStep_closed
  have hblock : ∀ k < n / blockWords c, u.dataBlock (blockWords c) k = s.dataBlock (blockWords c) k := fun k hk =>
    calc u.dataBlock (blockWords c) k
      _ = (decStep m (s.ef c) (s.ei c) (t.dataBlock _ k) _).1 := hux k hk
      _ = (decStep m (s.ef c) (s.ei c) (encStep m (s.ef c) (s.dataBlock _ k) _).1 _).1 :=
        congrArg (fun y => (decStep m (s.ef c) (s.ei c) y _).1) (hty k hk)
      _ = s.dataBlock (blockWords c) k := decStep_encStep hundo _ _
  have hrest : ∀ i, n ≤ i → u.dataWord i = s.dataWord i := fun i hi =>
    (hurun.frame.rest i hi).trans (hframe.rest i hi)
  exact ⟨t, u, ht, hu, hframe.status_eq, hurun.frame.status_eq,
    data_eq_of_dataBlock_eq (blockWords_pos c) haligned (hurun.frame.length.trans hframe.length) hblock hrest⟩

/-! ## The reach of a changed ciphertext block (R237) -/

section
variable {B : Nat}

theorem xorBlock_cancel_mid (x y z : Block B) : xorBlock (xorBlock x y) (xorBlock y z) = xorBlock x z := by
  refine Vector.ext fun i hi => ?_
  simp only [xorBlock, Vector.getElem_zipWith, ← BitVec.xor_assoc, xor_cancel_right]

/-- A change of one operand changes the sum by as much. -/
theorem xorBlock_change (x x' y : Block B) : xorBlock x' y = xorBlock (xorBlock x y) (xorBlock x x') := by
  refine Vector.ext fun i hi => ?_
  simp only [xorBlock, Vector.getElem_zipWith]
  rw [BitVec.xor_comm x[i], BitVec.xor_assoc, ← BitVec.xor_assoc x[i] x[i], BitVec.xor_self, BitVec.zero_xor,
    BitVec.xor_comm]

/-- In CFB, OFB and CTR a change of the input block changes the output block by as much. -/
theorem decStep_change {m : Mode} (hm : m = .cfb ∨ m = .ofb ∨ m = .ctr) (ef ei : Block B → Block B) (x x' ch : Block B) :
    (decStep m ef ei x' ch).1 = xorBlock (decStep m ef ei x ch).1 (xorBlock x x') := by
  rcases hm with rfl | rfl | rfl <;> exact xorBlock_change x x' _

end

/-- States that differ in the words of block `i` only agree on every other block. -/
theorem dataBlock_eq_of_dataWord_eq {B i k : Nat} {s t : State} (hk : k ≠ i)
    (h : ∀ j, j / B ≠ i → t.dataWord j = s.dataWord j) : t.dataBlock B k = s.dataBlock B k := by
  refine Vector.ext fun j hj => ?_
  have hdiv : (k * B + j) / B = k := by
    rw [Nat.mul_comm, Nat.mul_add_div (Nat.zero_lt_of_lt hj), Nat.div_eq_of_lt hj, Nat.add_zero]
  simp only [State.dataBlock, Vector.getElem_ofFn]
  exact h _ (hdiv.symm ▸ hk)

/-- Settles O56: output block `k` depends on input block `k` and, through the chain block of CBC and CFB, on input block
`k - 1`. -/
theorem errorPropagation : Obligations.ErrorPropagation := by
  intro m c n i s d B s' change hwf h hi hlen hd
  obtain ⟨t, ht, htrun⟩ := exec_decOf_accepted (m := m) hwf h
  obtain ⟨t', ht', htrun'⟩ := exec_decOf_accepted (m := m) (s := s') ((wf_congr (t := s') hlen rfl).trans hwf)
    (accepts_congr rfl rfl h)
  rw [show s'.ef c = s.ef c from ef_withBuffers s d s.chain c, show s'.ei c = s.ei c from ei_withBuffers s d s.chain c]
    at htrun'
  obtain ⟨hblock, hchain⟩ := htrun.decStep_closed
  obtain ⟨hblock', hchain'⟩ := htrun'.decStep_closed
  have hinput : ∀ k, k ≠ i → s'.dataBlock B k = s.dataBlock B k := fun k hk => dataBlock_eq_of_dataWord_eq hk hd
  have hsame : ∀ k, k ≠ i + 1 ∨ m = .ecb ∨ m = .ofb ∨ m = .ctr →
      modeChain m (s.ef c) (s'.chainBlock B) (s'.dataBlock B) k =
        modeChain m (s.ef c) (s.chainBlock B) (s.dataBlock B) k := by
    rintro k (hk | hm)
    · exact modeChain_congr m _ _ fun j hj => hinput j (by omega)
    · exact modeChain_of_no_feedback hm _ _ _ _ k
  refine ⟨t, t', ht, ht', fun k hk hki hkm => ?_, fun hm hlast => ?_, fun hm => ?_, fun hm => ?_, fun hm hlast => ?_⟩
  · rw [hblock' k hk, hblock k hk, hinput k hki, hsame k hkm]
  · subst hm
    rw [hblock' _ hlast, hblock _ hlast, hinput _ (by omega)]
    exact (xorBlock_cancel_mid _ _ _).symm
  · rw [hblock' i hi, hblock i hi, hsame i (.inl (by omega))]
    exact decStep_change hm _ _ _ _ _
  · have hreach : n / B ≠ i + 1 ∨ m = .ecb ∨ m = .ofb ∨ m = .ctr := by
      rcases hm with hm | hm | hm | hlt
      · exact .inr (.inl hm)
      · exact .inr (.inr (.inl hm))
      · exact .inr (.inr (.inr hm))
      · exact .inl (Nat.ne_of_gt hlt)
    exact chain_eq_of_chainBlock_eq (hchain'.trans ((hsame _ hreach).trans hchain.symm)) fun j hj =>
      (htrun'.frame.chainRest j hj).trans (htrun.frame.chainRest j hj).symm
  · rw [hchain', ← hlast]
    exact modeChain_succ_of_feedback hm _ _ _ i

end Sys2Proof.Machine
end

section
/-! PROOFS. The permutations IP and FP of DES as tables (48_tables_aes_des.md R279): an exchange step moves every bit of
the two halves to one place. -/

namespace Sys2Proof.Machine

/-! ## Permutations of the bits of two halves (R270) -/

/-- DES bit `j` of two halves (R270). -/
abbrev halvesBit (lr : Word × Word) (j : Nat) : Bool := desBit lr.1 lr.2 j

/-- `f` brings to each of the DES bits 1 to 64 the bit `source` names. -/
def MovesBits (f : Word × Word → Word × Word) (source : Nat → Nat) : Prop :=
  ∀ j, 1 ≤ j → j ≤ 64 → (1 ≤ source j ∧ source j ≤ 64) ∧ ∀ lr, halvesBit (f lr) j = halvesBit lr (source j)

theorem MovesBits.comp {f g : Word × Word → Word × Word} {a b : Nat → Nat} (hf : MovesBits f a) (hg : MovesBits g b) :
    MovesBits (fun lr => f (g lr)) fun j => b (a j) := fun j h1 h64 => by
  obtain ⟨⟨ha1, ha64⟩, hfj⟩ := hf j h1 h64
  obtain ⟨hrange, hgj⟩ := hg (a j) ha1 ha64
  exact ⟨hrange, fun lr => (hfj (g lr)).trans (hgj lr)⟩

theorem halvesBit_left (lr : Word × Word) {j : Nat} (h1 : 1 ≤ j) (h32 : j ≤ 32) :
    halvesBit lr j = lr.1.getLsbD (32 - j) := by
  rw [halvesBit, desBit, if_pos h32]
  congr 1
  omega

theorem halvesBit_right (lr : Word × Word) {j : Nat} (h33 : 32 < j) (h64 : j ≤ 64) :
    halvesBit lr j = lr.2.getLsbD (64 - j) := by
  rw [halvesBit, desBit, if_neg (by omega)]
  congr 1
  omega

/-- The DES bit at the place of bit `j` in the other half. -/
def otherHalf (j : Nat) : Nat := (j + 31) % 64 + 1

theorem movesBits_swap : MovesBits Prod.swap otherHalf := fun j h1 h64 => by
  rw [otherHalf]
  refine ⟨by omega, fun lr => ?_⟩
  by_cases h : j ≤ 32
  · rw [halvesBit_left _ h1 h, halvesBit_right _ (by omega) (by omega), Prod.fst_swap]
    congr 1
    omega
  · rw [halvesBit_right _ (by omega) h64, halvesBit_left _ (by omega) (by omega), Prod.snd_swap]
    congr 1
    omega

/-! ## The exchange steps (R156) -/

/-- The bit `ExLR` brings to DES bit `j`: under the mask, bit `b` of the right half and bit `b + n` of the left half change
places. -/
def exLRSource (n : Nat) (m : Word) (j : Nat) : Nat :=
  if j ≤ 32 then if n ≤ 32 - j ∧ m.getLsbD (32 - j - n) then j + 32 + n else j
  else if m.getLsbD (64 - j) then j - 32 - n else j

section
variable {n : Nat} {m : Word}

theorem getLsbD_exLR_fst (lr : Word × Word) {b : Nat} (hb : b < 32) :
    (exLR n m lr).1.getLsbD b = if n ≤ b ∧ m.getLsbD (b - n) then lr.2.getLsbD (b - n) else lr.1.getLsbD b := by
  by_cases hn : n ≤ b
  · have hbit : n + (b - n) = b := Nat.add_sub_of_le hn
    have hlow : ¬ b < n := Nat.not_lt.mpr hn
    have hin : b - n < 32 := Nat.lt_of_le_of_lt (Nat.sub_le b n) hb
    cases hmask : m[b - n] <;> simp [exLR, hb, hn, hbit, hlow, hin, hmask]
  · simp [exLR, hb, hn, Nat.lt_of_not_le hn]

theorem getLsbD_exLR_snd (lr : Word × Word) (b : Nat) :
    (exLR n m lr).2.getLsbD b = if m.getLsbD b then lr.1.getLsbD (n + b) else lr.2.getLsbD b := by
  cases hmask : m.getLsbD b <;> simp [exLR, hmask, Bool.xor_comm (lr.1.getLsbD _)]

/-- A mask that survives the shift holds only bits that the shift keeps. -/
theorem add_lt_of_mask (hm : m <<< n >>> n = m) {b : Nat} (hb : m.getLsbD b = true) : b + n < 32 := by
  rw [← hm, BitVec.getLsbD_ushiftRight, BitVec.getLsbD_shiftLeft] at hb
  simp only [Bool.and_eq_true, decide_eq_true_eq] at hb
  omega

theorem movesBits_exLR (hm : m <<< n >>> n = m) : MovesBits (exLR n m) (exLRSource n m) := fun j h1 h64 => by
  rw [exLRSource]
  by_cases h32 : j ≤ 32
  · rw [if_pos h32]
    refine ⟨by split <;> omega, fun lr => ?_⟩
    rw [halvesBit_left _ h1 h32, getLsbD_exLR_fst lr (by omega)]
    split
    · rw [halvesBit_right _ (by omega) (by omega)]
      congr 1
      omega
    · rw [halvesBit_left _ h1 h32]
  · rw [if_neg h32]
    by_cases hmask : m.getLsbD (64 - j) = true
    · have hlt := add_lt_of_mask hm hmask
      refine ⟨by rw [if_pos hmask]; omega, fun lr => ?_⟩
      rw [if_pos hmask, halvesBit_right _ (by omega) h64, getLsbD_exLR_snd, if_pos hmask,
        halvesBit_left _ (by omega) (by omega)]
      congr 1
      omega
    · refine ⟨by rw [if_neg hmask]; omega, fun lr => ?_⟩
      rw [if_neg hmask, halvesBit_right _ (by omega) h64, getLsbD_exLR_snd, if_neg hmask,
        halvesBit_right _ (by omega) h64]

/-- The bit `ExRL` brings to DES bit `j`: that of `ExLR` on the halves exchanged. -/
def exRLSource (n : Nat) (m : Word) (j : Nat) : Nat := otherHalf (exLRSource n m (otherHalf j))

theorem movesBits_exRL (hm : m <<< n >>> n = m) : MovesBits (exRL n m) (exRLSource n m) :=
  movesBits_swap.comp ((movesBits_exLR hm).comp movesBits_swap)

end

/-! ## IP and FP (R157, R158, R279) -/

/-- The bit the five steps of R157 bring to DES bit `j`, last step first. -/
def desIpSource (j : Nat) : Nat :=
  exLRSource 4 0x0F0F0F0F (exLRSource 16 0x0000FFFF (exRLSource 2 0x33333333 (exRLSource 8 0x00FF00FF
    (exLRSource 1 0x55555555 j))))

theorem movesBits_desInitialPermutation : MovesBits desInitialPermutation desIpSource :=
  have h1 := movesBits_exLR (n := 1) (m := 0x55555555) (by decide)
  have h8 := movesBits_exRL (n := 8) (m := 0x00FF00FF) (by decide)
  have h2 := movesBits_exRL (n := 2) (m := 0x33333333) (by decide)
  have h16 := movesBits_exLR (n := 16) (m := 0x0000FFFF) (by decide)
  have h4 := movesBits_exLR (n := 4) (m := 0x0F0F0F0F) (by decide)
  (h1.comp (h8.comp (h2.comp (h16.comp h4))) :)

theorem desIpSource_eq : ∀ j < 64, desIpSource (j + 1) = desIp.getD j 0 := by decide +kernel

theorem halvesBit_desInitialPermutation (lr : Word × Word) {j : Nat} (hj : j < 64) :
    halvesBit (desInitialPermutation lr) (j + 1) = halvesBit lr (desIp.getD j 0) := by
  obtain ⟨-, hbit⟩ := movesBits_desInitialPermutation (j + 1) (Nat.le_add_left 1 j) hj
  rw [hbit, desIpSource_eq j hj]

theorem getD_desFp_range : ∀ j < 64, 1 ≤ desFp.getD j 0 ∧ desFp.getD j 0 ≤ 64 := by decide

/-- FP undoes IP, on halves (R158) and in the tables (R279). -/
theorem halvesBit_desFinalPermutation (lr : Word × Word) {j : Nat} (hj : j < 64) :
    halvesBit (desFinalPermutation lr) (j + 1) = halvesBit lr (desFp.getD j 0) := by
  obtain ⟨h1, h64⟩ := getD_desFp_range j hj
  have hip := halvesBit_desInitialPermutation (desFinalPermutation lr) (j := desFp.getD j 0 - 1) (by omega)
  rw [desInitialPermutation_desFinalPermutation, desFp_desIp j hj, Nat.sub_add_cancel h1] at hip
  exact hip.symm

/-- Settles O41: the five exchange steps bring each bit from the place the table IP names, and FP undoes IP. -/
theorem desPermutationsAreTheTables : Obligations.DesPermutationsAreTheTables := fun l r =>
  ⟨fun _ => halvesBit_desInitialPermutation (l, r), fun _ => halvesBit_desFinalPermutation (l, r),
    desFinalPermutation_desInitialPermutation (l, r), desInitialPermutation_desFinalPermutation (l, r)⟩

end Sys2Proof.Machine
end

section
/-! PROOFS. Command errors (60_exceptions.md): the order of the checks (R305), what a refused command changes (R303), and
that no command depends on an earlier error (R302, R304, R306). -/

namespace Sys2Proof.Machine

/-! ## The order of the checks (R305) -/

/-- The number of an error in `STATUS.ERR`, 0 for none (R22, R301). -/
def errorNumber (e : Option CommandError) : Nat :=
  match e with
  | none => 0
  | some e => (errorCode e).toNat

/-- The fields of a command word as numbers. -/
theorem FieldsAre.bitsOf_eq {v : Word} {op c : BitVec 2} {m : BitVec 3} {kw n : Nat} (h : FieldsAre v op c m kw n) :
    bitsOf v 0 2 = op.toNat ∧ bitsOf v 2 2 = c.toNat ∧ bitsOf v 4 3 = m.toNat ∧ bitsOf v 7 1 = 0 ∧ bitsOf v 8 4 = kw ∧
      bitsOf v 12 4 = 0 ∧ bitsOf v 16 16 = n := by
  obtain ⟨rfl, rfl, rfl, h7, rfl, h12, rfl⟩ := h
  obtain ⟨fop, fc, fm, f7, fkw, f12, fn⟩ := fields_toNat v
  exact ⟨fop.symm, fc.symm, fm.symm, f7.symm.trans ((eq_zero_iff_toNat _).mp h7), fkw.symm,
    f12.symm.trans ((eq_zero_iff_toNat _).mp h12), fn.symm⟩

section
variable {v : Word} {c : Cipher} {m : Mode} {kw n : Nat} {s : State}

theorem firstError_of_illegalFields (h : IllegalFields v) : firstError v s = 6 := by
  simp only [firstError]
  rcases h with h | h
  · exact if_pos h
  · rw [if_pos h, ite_self]

theorem firstError_of_unnamed_mode (h : ¬ IllegalFields v) (hop : 2 ≤ bitsOf v 0 2) (hm : 4 < bitsOf v 4 3) :
    firstError v s = 2 := by
  obtain ⟨hreserved, hfields⟩ := not_or.mp h
  simp only [firstError, if_neg hreserved, if_neg hfields, if_pos (And.intro hop hm)]

theorem firstError_of_keyexp (h : FieldsAre v 0 c.code 0 kw 0) :
    firstError v s = if kw ∈ keySizes c then 0 else 1 := by
  obtain ⟨hop, hc, hm, h7, hkw, h12, hn⟩ := h.bitsOf_eq
  have hsize := mem_keySizes_cipherOf_iff c.code kw
  rw [cipherOf_code] at hsize
  simp only [firstError, hop, hc, hm, h7, hkw, h12, hn, ← hsize]
  by_cases hk : kw ∈ keySizes c <;> simp [hk]

theorem not_ready_iff (s : State) (c : Cipher) : bitsOf s.kstag 8 1 ≠ 1 ∨ bitsOf s.kstag 0 2 ≠ c.code.toNat ↔
    s.kstagFwd = false ∨ s.kstagCipher ≠ c.code := by
  obtain ⟨hfwd, -, hcipher, -⟩ := kstagFields_toNat s
  rw [hcipher, Ne, hfwd, Bool.not_eq_true, Ne, BitVec.toNat_inj]

theorem firstError_of_invkey (h : FieldsAre v 1 Cipher.aes.code 0 0 0) :
    firstError v s = if s.kstagFwd = true ∧ s.kstagCipher = Cipher.aes.code then 0 else 5 := by
  obtain ⟨hop, hc, hm, h7, hkw, h12, hn⟩ := h.bitsOf_eq
  have hready := not_ready_iff s .aes
  simp only [firstError, hop, hc, hm, h7, hkw, h12, hn, hready]
  by_cases hf : s.kstagFwd = true <;> by_cases hk : s.kstagCipher = Cipher.aes.code <;>
    simp [hf, hk, Cipher.code]

theorem decNeedsInverse_iff (m : Mode) (c : Cipher) :
    decNeedsInverse m c = true ↔ c.code.toNat = 0 ∧ m.code.toNat ≤ 1 := by
  cases m <;> cases c <;> decide

theorem code_toNat_le_four (m : Mode) : m.code.toNat ≤ 4 := by cases m <;> decide

theorem beq_three_iff (op : BitVec 2) : (op == 3) = true ↔ op.toNat = 3 := by revert op; decide

/-- For an `ENC` or `DEC` word the checks of R305 are those of R220. -/
theorem firstError_of_mode {op : BitVec 2} (hop : 2 ≤ op.toNat) (h : FieldsAre v op c.code m.code 0 n) :
    firstError v s = errorNumber (modeError c (op == 3 && decNeedsInverse m c) n s) := by
  obtain ⟨hopv, hc, hm, h7, hkw, h12, hn⟩ := h.bitsOf_eq
  obtain ⟨-, hinv, -, -, hconfig⟩ := kstagFields_toNat s
  have hready : 1 ≤ op.toNat ∧ (bitsOf s.kstag 8 1 ≠ 1 ∨ bitsOf s.kstag 0 2 ≠ c.code.toNat) ↔
      s.kstagFwd = false ∨ s.kstagCipher ≠ c.code := by
    rw [← not_ready_iff, and_iff_right (by omega)]
  have hneed : op.toNat = 3 ∧ c.code.toNat = 0 ∧ m.code.toNat ≤ 1 ∧ bitsOf s.kstag 9 1 ≠ 1 ↔
      (op == 3 && decNeedsInverse m c) = true ∧ s.kstagInv = false := by
    rw [Ne, hinv, Bool.not_eq_true, Bool.and_eq_true, decNeedsInverse_iff, beq_three_iff, and_assoc, and_assoc]
  have halign : 2 ≤ op.toNat ∧ n % (if c.code.toNat = 0 then 4 else 2) ≠ 0 ↔ n % blockWords c ≠ 0 := by
    rw [and_iff_right hop]
    cases c <;> rfl
  have hbound : 2 ≤ op.toNat ∧ s.dataWords < n ↔ n > s.dataWords := and_iff_right hop
  have hmode := code_toNat_le_four m
  simp only [firstError, hopv, hc, hm, h7, hkw, h12, hn, hconfig, hready, hneed, halign, hbound, modeError]
  rw [if_neg (by decide), if_neg (by omega), if_neg (by omega), if_neg (by omega)]
  simp only [apply_ite errorNumber]
  rfl

end

theorem statusWord_toNat (err : BitVec 4) : (statusWord err).toNat = err.toNat := by
  rw [statusWord, BitVec.toNat_setWidth_of_le (by decide)]

/-- A mode command ends with the code of the check of R220 that fails first. -/
theorem modeCommand_status {B : Nat} (c : Cipher) (needInv : Bool) (step : BlockStep B) (n : Nat) (s : State) :
    ∃ t, modeCommand c needInv step n s = .next t ∧ t.status.toNat = errorNumber (modeError c needInv n s) := by
  rcases modeCommand_cases c needInv step n s with ⟨e, he, h⟩ | ⟨he, h⟩ <;> refine ⟨_, h, ?_⟩ <;> rw [he]
  · exact statusWord_toNat (errorCode e)
  · rfl

/-- The command a word encodes ends with the code of the first failing check. -/
theorem IsWordOf.exec_status {v : Word} {i : Instr} (h : IsWordOf v i) (s : State) :
    ∃ t, exec i s = .next t ∧ t.status.toNat = firstError v s := by
  cases h with
  | keyexp c kw h =>
    rw [exec_keyexpOf, firstError_of_keyexp h]
    split <;> exact ⟨_, rfl, rfl⟩
  | invkey h =>
    rw [exec_invkeyAes, firstError_of_invkey h]
    split <;> exact ⟨_, rfl, rfl⟩
  | enc m c n h =>
    rw [exec_encOf, firstError_of_mode (by decide) h]
    exact modeCommand_status c false _ n s
  | dec m c n h =>
    rw [exec_decOf, firstError_of_mode (by decide) h]
    exact modeCommand_status c (decNeedsInverse m c) _ n s

/-- Settles O22: the checks of the decoder come first, then those of the command the word encodes. -/
theorem errorPriority : Obligations.ErrorPriority := by
  intro v s
  by_cases h : IllegalFields v
  · rw [executeCommand_error (decode_of_illegalFields h), firstError_of_illegalFields h]
    exact ⟨_, rfl, rfl⟩
  by_cases hm : 2 ≤ bitsOf v 0 2 ∧ 4 < bitsOf v 4 3
  · obtain ⟨hop, hmode⟩ := hm
    rw [executeCommand_error (decode_of_unnamed_mode h hop hmode), firstError_of_unnamed_mode h hop hmode]
    exact ⟨_, rfl, rfl⟩
  · obtain ⟨i, hi⟩ := isWordOf_of_legal h fun hop => not_lt.mp fun hlt => hm ⟨hop, hlt⟩
    rw [executeCommand_ok hi.decode_eq]
    exact hi.exec_status { s with cmd := v, response := .written }

/-! ## What a refused command changes (R303) -/

theorem ExecResult.eq_raise_of_status_ne_zero {s t : State} (h : ExecResult s t) (hs : t.status ≠ 0) :
    ∃ e, t = s.raise e := by
  cases h with
  | raised e => exact ⟨e, rfl⟩
  | expanded | inverted | processed => exact absurd rfl hs

/-- Settles O23: of all that a command can do, only an error leaves `STATUS` other than 0. -/
theorem refusedCommandChangesOnlyStatus : Obligations.RefusedCommandChangesOnlyStatus := by
  intro v s t h hs
  obtain ⟨u, hu, he⟩ := executeCommand_result v s
  rw [hu] at h
  cases h
  obtain ⟨e, rfl⟩ := he.eq_raise_of_status_ne_zero hs
  exact ⟨rfl, he.status_le⟩

/-! ## Errors are not sticky (R302, R304, R306) -/

theorem modeCommand_withStatus {B : Nat} (c : Cipher) (needInv : Bool) (step : BlockStep B) (n : Nat) (s : State)
    (old : Word) : modeCommand c needInv step n { s with status := old } = modeCommand c needInv step n s := by
  rw [modeCommand, modeCommand, modeError_congr (s := s) (t := { s with status := old }) rfl rfl]
  cases modeError c needInv n s <;> rfl

/-- No command reads `STATUS`, and every command writes it. -/
theorem exec_withStatus (i : Instr) (s : State) (old : Word) : exec i { s with status := old } = exec i s := by
  have hef (c : Cipher) : ({ s with status := old } : State).ef c = s.ef c := ef_congr rfl fun _ _ => rfl
  have hei (c : Cipher) : ({ s with status := old } : State).ei c = s.ei c :=
    ei_congr rfl (fun _ _ => rfl) fun _ _ _ => rfl
  rcases instr_cases i with ⟨c, kw, rfl⟩ | rfl | ⟨m, c, n, rfl⟩ | ⟨m, c, n, rfl⟩
  · rw [exec_keyexpOf, exec_keyexpOf]
    rfl
  · rw [exec_invkeyAes, exec_invkeyAes]
    rfl
  · rw [exec_encOf, exec_encOf, hef]
    exact modeCommand_withStatus ..
  · rw [exec_decOf, exec_decOf, hef, hei]
    exact modeCommand_withStatus ..

theorem executeCommand_withStatus (v old oldCmd : Word) (s : State) :
    executeCommand v { s with status := old, cmd := oldCmd } = executeCommand v s := by
  cases h : decode v with
  | error e => rw [executeCommand_error h, executeCommand_error h]; rfl
  | ok i =>
    rw [executeCommand_ok h, executeCommand_ok h]
    exact exec_withStatus i { s with cmd := v, response := .written } old

/-- Settles O24: a command overwrites `CMD` and `STATUS`, and a refused one has changed nothing else. -/
theorem errorsAreNotSticky : Obligations.ErrorsAreNotSticky := by
  refine ⟨executeCommand_withStatus, fun v w s t h hs => ?_⟩
  obtain ⟨ht, -⟩ := refusedCommandChangesOnlyStatus v s t h hs
  rw [ht]
  exact executeCommand_withStatus w t.status v s

end Sys2Proof.Machine
end

section
/-! PROOFS. Reset (70_reset_and_hazards.md R330, R332) and a step with no host step pending (R319). -/

namespace Sys2Proof.Machine

/-- Settles O14, by the rule of `step` with no host step pending. -/
theorem idleStepHolds : Obligations.IdleStepHolds := fun _ => step_idle

/-! ## What a reset clears (R330) -/

/-- `CMD`, `STATUS`, `KSTAG`, `KEY` and `CHAIN` are 0. -/
structure State.Cleared (s : State) : Prop where
  cmd : s.cmd = 0
  status : s.status = 0
  kstag : s.kstag = 0
  key : s.key = Vector.replicate 14 0
  chain : s.chain = Vector.replicate 4 0

theorem State.reset_cleared : State.reset.Cleared := ⟨rfl, rfl, rfl, rfl, rfl⟩

theorem resetEngine_cleared (s : State) : (resetEngine s).Cleared := ⟨rfl, rfl, rfl, rfl, rfl⟩

theorem State.Cleared.keyWord {s : State} (h : s.Cleared) (i : Nat) (hi : i < 14) : s.keyWord i = 0 := by
  rw [keyWord_eq s i hi, h.key, Vector.getElem_replicate]

theorem State.Cleared.chainWord {s : State} (h : s.Cleared) (i : Nat) (hi : i < 4) : s.chainWord i = 0 := by
  rw [chainWord_eq s i hi, h.chain, Vector.getElem_replicate]

/-- Settles O11: both states are cleared, and a reset keeps `CONFIG` and the steps still pending. -/
theorem resetStep : Obligations.ResetStep := by
  unfold Obligations.ResetStep
  intro cleared
  have hcleared (s : State) (h : s.Cleared) : cleared s := ⟨h.cmd, h.status, h.kstag, h.keyWord, h.chainWord⟩
  exact ⟨hcleared _ State.reset_cleared, fun s rest hr =>
    ⟨_, step_pending hr, hcleared _ (resetEngine_cleared _), rfl, resetEngine_data_length _, rfl⟩⟩

/-! ## What the host sees after a reset (R332) -/

/-- Reading an element in range by its address. -/
theorem busWord_ofNat_address {s : State} (e : Element) (he : e.InRange s.dataWords) (hlt : e.address < 2 ^ 32) :
    s.busWord (BitVec.ofNat 32 e.address) = some (s.element e) :=
  busWord_of_addressMap (addressMap_eq_some_iff.mpr ⟨(BitVec.toNat_ofNat _ _).trans (Nat.mod_eq_of_lt hlt), he⟩)

/-- A legal `CONFIG` is the number of words of `DATA` (R28). -/
theorem config_eq_ofNat_dataWords {s : State} (h : s.ConfigLegal) : s.config = BitVec.ofNat 32 s.dataWords := by
  obtain ⟨-, hle⟩ := h
  obtain ⟨-, -, -, -, hwords⟩ := kstagFields_toNat s
  apply BitVec.eq_of_toNat_eq
  rw [BitVec.toNat_ofNat, ← hwords, bitsOf]
  omega

/-- Without a forward schedule a mode command is refused (R220). -/
theorem modeCommand_of_kstagFwd_eq_false {B : Nat} {c : Cipher} {needInv : Bool} {step : BlockStep B} {n : Nat}
    {s : State} (h : s.kstagFwd = false) : modeCommand c needInv step n s = .next { s with status := 5 } := by
  have herr : modeError c needInv n s = some .scheduleNotReady := if_pos (.inl h)
  rw [modeCommand, herr]
  rfl

theorem State.Cleared.kstagFwd {s : State} (h : s.Cleared) : s.kstagFwd = false := by
  rw [State.kstagFwd, h.kstag]
  rfl

/-- Settles O12: the cleared registers as the bus reads them, and `FWD = 0` fails the first check of every `ENC`, `DEC` and
`INVKEY.AES`. -/
theorem afterResetAsHostSees : Obligations.AfterResetAsHostSees := by
  intro t ht
  have hcleared : t.Cleared := by
    rcases ht with rfl | ⟨s, -, rfl⟩
    · exact State.reset_cleared
    · exact resetEngine_cleared s
  have hconfig : t.ConfigLegal := by
    rcases ht with rfl | ⟨s, hs, rfl⟩
    · exact State.reset_configLegal
    · exact hs
  have hfwd := hcleared.kstagFwd
  refine ⟨?_, ?_, ?_, ?_, fun i hi => ?_, fun i hi => ?_, fun m c n => ⟨?_, ?_⟩, ?_⟩
  · exact (busWord_ofNat_address .cmd trivial (by decide)).trans (congrArg some hcleared.cmd)
  · exact (busWord_ofNat_address .status trivial (by decide)).trans (congrArg some hcleared.status)
  · exact (busWord_ofNat_address .kstag trivial (by decide)).trans (congrArg some hcleared.kstag)
  · exact (busWord_ofNat_address .config trivial (by decide)).trans (congrArg some (config_eq_ofNat_dataWords hconfig))
  · rw [← hcleared.keyWord i hi, keyWord_eq t i hi]
    exact busWord_ofNat_address (.key ⟨i, hi⟩) trivial (by simp only [Element.address]; omega)
  · rw [← hcleared.chainWord i hi, chainWord_eq t i hi]
    exact busWord_ofNat_address (.chain ⟨i, hi⟩) trivial (by simp only [Element.address]; omega)
  · rw [exec_encOf]; exact modeCommand_of_kstagFwd_eq_false hfwd
  · rw [exec_decOf]; exact modeCommand_of_kstagFwd_eq_false hfwd
  · rw [exec_invkeyAes, if_neg (by simp [hfwd])]
    rfl

end Sys2Proof.Machine
end
